-- ==== Sys2Proof/Word.lean ====
section
/-!
DEFINITION. The words and indexes of the UB-464, by the manual's own sizes (00_scope.md, Conventions; R30; R186).
Bit vectors stand for what the manual treats as bits: bus words, byte addresses, tick counts, data bytes.
Numbers of things (initiators, entries, windows, tags) are indexes.
-/

namespace Sys2Proof

/-- One byte of data. -/
abbrev Byte := BitVec 8

/-- One word of the management bus, MD15-MD0 (R186). -/
abbrev Word := BitVec 16

/-- A 32-bit byte address of an initiator link or of the target link (R30). -/
abbrev Addr := BitVec 32

/-- A 32-bit tick count (R121). -/
abbrev Tick := BitVec 32

/-- An initiator, named by its port IP0-IP3. -/
abbrev Initiator := Fin 4

/-- An initiator tag, 0-15 (R32). -/
abbrev Tag := Fin 16

/-- A tracker entry, 0-63: also the tag on the target link (R36). -/
abbrev EntryIdx := Fin 64

/-- An address window W0-W7 (R69). -/
abbrev WindowIdx := Fin 8

/-- A monitor counter C0-C5 (R155). -/
abbrev CounterIdx := Fin 6

end Sys2Proof
end

