-- ==== Sys2Proof/Syntax.lean ====
section
/-!
DEFINITION. The commands the UB-464 takes: one constructor of `Instr` for every row of spec/opcode_table.json,
with the messages and bus words those commands carry (chapters 2 and 11).
-/

namespace Sys2Proof

/-- The op of a request, in the order of its code: 0 READ, 1 WRITE (R30). -/
inductive Op where
  | read
  | write
deriving DecidableEq, Repr

/-- One beat record of a WRITE REQUEST: 8 data bytes, then 8 byte-enable flags, the first flag for the first byte (R30). -/
structure WriteBeat where
  bytes : Vector Byte 8
  enables : Vector Bool 8
deriving DecidableEq, Repr

/-- One beat record of a RESPONSE: 8 data bytes (R30). -/
abbrev DataBeat := Vector Byte 8

/-- A REQUEST as an initiator sends it (R32). `beats` is the 4-bit header field and `data` the beat records the message
really carries: the arrival checks compare the two (R43). -/
structure Request where
  tag : Tag
  op : Op
  address : Addr
  beats : Nat
  data : List WriteBeat
deriving DecidableEq, Repr

/-- The 1-bit status of a RESPONSE on the target link: 0 OKAY, 1 FAIL (R30). -/
inductive TargetStatus where
  | okay
  | fail
deriving DecidableEq, Repr

/-- A RESPONSE as the target sends it (R37). `dataCount` is the 4-bit header field, `data` the records really carried. -/
structure Response where
  tag : EntryIdx
  status : TargetStatus
  dataCount : Nat
  data : List DataBeat
deriving DecidableEq, Repr

/-- The link on which a message arrives (R29). -/
inductive Link where
  | initiator (i : Initiator)
  | target
deriving DecidableEq, Repr

/-- The two words of a counter's control: A at 0x82 + 4c, B at 0x83 + 4c (11.2). -/
inductive ControlWord where
  | a
  | b
deriving DecidableEq, Repr

/-- The commands of the UB-464, one constructor per row of spec/opcode_table.json.

* Messages arrive whole on a link (R29).
* The block's own events (TICK to DRAIN_COMPLETION) are steps of the table too, and are queued like the others.
* DEVICE_RESET is a change of the level of RST_N, down or up (R195, log entry 12).
* The commands PORT_ENABLE to TRAFFIC_RESET are writes of their code to the command register. They carry no operand:
  their argument is the argument register as it stands (R190).
* The register accesses carry the word on MD15-MD0 and, where the row covers several registers, which one. -/
inductive Instr where
  -- messages (chapter 2)
  | request (i : Initiator) (r : Request)
  | linkReset (i : Initiator)
  | undefinedKindMessage (link : Link) (kind : Nat)
  | targetResponse (r : Response)
  | targetCredit (count : Nat)
  | resyncAck (count : Nat)
  | resetNotice (count : Nat)
  -- events of the part's own blocks
  | tick
  | expiryClaim
  | periodExpiry
  | resyncWaitExpiry
  | grant
  | issue
  | drainCompletion (p : Initiator)
  | deviceReset
  -- writes to the command register (R190)
  | portEnable
  | portDrain
  | portFence
  | targetResync
  | targetOffline
  | writeWindow
  | readWindow
  | writeProfile
  | readProfile
  | writeEdges
  | budgetReload
  | histClear
  | counterFreeze
  | counterUnfreeze
  | counterClear
  | trackerSnapshot
  | faultPop
  | trafficReset
  | unassignedCommand (code : Word)
  -- other register accesses (R187)
  | prescalerWrite (value : Word)
  | regulationPeriodWrite (value : Word)
  | detachLimitWrite (value : Word)
  | resyncWaitWrite (value : Word)
  | tickCountLowRead
  | interruptFlagsWrite (value : Word)
  | interruptEnablesWrite (value : Word)
  | counterValueLowRead (c : CounterIdx)
  | counterValueHighWrite (c : CounterIdx) (value : Word)
  | counterValueLowWrite (c : CounterIdx) (value : Word)
  | counterControlWrite (c : CounterIdx) (w : ControlWord) (value : Word)
  | counterOverflowFlagsWrite (value : Word)
  | histogramIndexWrite (value : Word)
  | stagingWrite (k : Fin 8) (value : Word)
  | registerWrite (address : BitVec 8) (value : Word)
deriving DecidableEq, Repr

end Sys2Proof
end

