-- ==== Sys2Proof/Config.lean ====
section
/-!
DEFINITION. What is fixed for the part: the message kinds and their directions (R30), the command codes (R190), the
sizes the manual names, and the TWO values the manual leaves free.
-/

namespace Sys2Proof

/-! ### Message kinds (R30) -/

/-- The message kinds shared by all links (R30). -/
inductive MessageKind where
  | request
  | linkReset
  | response
  | credit
  | revoke
  | resync
  | resyncAck
  | resetNotice
deriving DecidableEq, Repr

/-- The kind codes of R30. -/
def MessageKind.code : MessageKind → Nat
  | .request => 1
  | .linkReset => 2
  | .response => 3
  | .credit => 4
  | .revoke => 5
  | .resync => 6
  | .resyncAck => 7
  | .resetNotice => 8

/-- The kind a code names, if any (R30). -/
def MessageKind.ofCode : Nat → Option MessageKind
  | 1 => some .request
  | 2 => some .linkReset
  | 3 => some .response
  | 4 => some .credit
  | 5 => some .revoke
  | 6 => some .resync
  | 7 => some .resyncAck
  | 8 => some .resetNotice
  | _ => none

/-- The four directions of the table of R30. -/
inductive Direction where
  | initiatorToPart
  | partToInitiator
  | partToTarget
  | targetToPart
deriving DecidableEq, Repr

/-- The directions for which each kind is defined (R30). -/
def MessageKind.definedFor : MessageKind → Direction → Bool
  | .request, .initiatorToPart => true
  | .request, .partToTarget => true
  | .linkReset, .initiatorToPart => true
  | .linkReset, .partToInitiator => true
  | .linkReset, .partToTarget => true
  | .response, .partToInitiator => true
  | .response, .targetToPart => true
  | .credit, .partToInitiator => true
  | .credit, .targetToPart => true
  | .revoke, .partToInitiator => true
  | .resync, .partToTarget => true
  | .resyncAck, .targetToPart => true
  | .resetNotice, .targetToPart => true
  | _, _ => false

/-- The direction in which a message arrives at the part on a link. -/
def Link.arrival : Link → Direction
  | .initiator _ => .initiatorToPart
  | .target => .targetToPart

/-- Is this kind code defined for what arrives on the link (R31)? -/
def Link.definesKind (l : Link) (code : Nat) : Bool :=
  match MessageKind.ofCode code with
  | some k => k.definedFor l.arrival
  | none => false

/-! ### Command codes (R190) -/

def Config.codePortEnable : Word := 0x01
def Config.codePortDrain : Word := 0x02
def Config.codePortFence : Word := 0x03
def Config.codeTargetResync : Word := 0x10
def Config.codeTargetOffline : Word := 0x11
def Config.codeWriteWindow : Word := 0x20
def Config.codeReadWindow : Word := 0x21
def Config.codeWriteProfile : Word := 0x22
def Config.codeReadProfile : Word := 0x23
def Config.codeWriteEdges : Word := 0x24
def Config.codeBudgetReload : Word := 0x30
def Config.codeHistClear : Word := 0x40
def Config.codeCounterFreeze : Word := 0x41
def Config.codeCounterUnfreeze : Word := 0x42
def Config.codeCounterClear : Word := 0x43
def Config.codeTrackerSnapshot : Word := 0x50
def Config.codeFaultPop : Word := 0x51
def Config.codeTrafficReset : Word := 0x7F

/-- The codes of the command table; every other value, code 0 included, is unassigned (R190). -/
def Config.assignedCodes : List Word :=
  [Config.codePortEnable, Config.codePortDrain, Config.codePortFence, Config.codeTargetResync, Config.codeTargetOffline,
   Config.codeWriteWindow, Config.codeReadWindow, Config.codeWriteProfile, Config.codeReadProfile, Config.codeWriteEdges,
   Config.codeBudgetReload, Config.codeHistClear, Config.codeCounterFreeze, Config.codeCounterUnfreeze,
   Config.codeCounterClear, Config.codeTrackerSnapshot, Config.codeFaultPop, Config.codeTrafficReset]

/-! ### Sizes -/

/-- An initiator port grants at most 8 credits, the places of its ingress queue (2.4). -/
def Config.ingressPlaces : Nat := 8

/-- The target tags, and so the greatest target credit count (R40). -/
def Config.targetTags : Nat := 64

/-- The greatest line number of the 32-bit byte space (R69). -/
def Config.maxLine : Nat := 67108863

/-- The fault log holds at most 16 records (R177). -/
def Config.logPlaces : Nat := 16

/-! ### The free values -/

/-- FREE VALUE (log entry 1). The order in which the adds of one report or one tick, and the histogram bin of the same
completion, are taken when one of them may freeze the bank. R164: each may be taken before the freeze or after it.
`Config.addOrder k` decides the `k`-th such order; nothing is known of it. -/
opaque Config.addOrder : Nat → Nat

/-- FREE VALUE (log entry 3). Whether the monitor's sample of a tick waits for a further event of that tick. R159: the sample and the
expiries of one tick may be taken in either order. `Config.sampleWaits k` decides the `k`-th time the sample could be taken while
an expiry is still due; nothing is known of it. -/
opaque Config.sampleWaits : Nat → Bool

end Sys2Proof
end

