-- ==== Sys2Proof/WellFormed.lean ====
section
/-!
DEFINITION. Which commands can reach the part: operand values that fit the fields the messages give them (R30), and
operands that belong to the row (an undefined kind, an unassigned code, an address without a row of its own).
-/

namespace Sys2Proof

/-- The addresses whose write is a row of its own in spec/opcode_table.json; every other address is REGISTER_WRITE's. -/
def Config.hasOwnWriteRow (a : BitVec 8) : Bool :=
  let n := a.toNat
  (0x08 ≤ n && n ≤ 0x0B) || n == 0x10 || n == 0x11 || n == 0x14 || (0x18 ≤ n && n ≤ 0x1F) ||
  (0x80 ≤ n && n ≤ 0x98) || n == 0xA8

/-- The command is one that the part's links or bus can deliver as its row. -/
def Instr.wellFormed : Instr → Bool
  | .request _ r => r.beats < 16
  | .undefinedKindMessage l k => k < 16 && !l.definesKind k
  | .targetResponse r => r.dataCount < 16
  | .targetCredit n => n < 128
  | .resyncAck n => n < 128
  | .resetNotice n => n < 128
  | .unassignedCommand c => !Config.assignedCodes.contains c
  | .registerWrite a _ => !Config.hasOwnWriteRow a
  | .linkReset _ => true
  | .tick => true
  | .expiryClaim => true
  | .periodExpiry => true
  | .resyncWaitExpiry => true
  | .grant => true
  | .issue => true
  | .drainCompletion _ => true
  | .deviceReset => true
  | .portEnable => true
  | .portDrain => true
  | .portFence => true
  | .targetResync => true
  | .targetOffline => true
  | .writeWindow => true
  | .readWindow => true
  | .writeProfile => true
  | .readProfile => true
  | .writeEdges => true
  | .budgetReload => true
  | .histClear => true
  | .counterFreeze => true
  | .counterUnfreeze => true
  | .counterClear => true
  | .trackerSnapshot => true
  | .faultPop => true
  | .trafficReset => true
  | .prescalerWrite _ => true
  | .regulationPeriodWrite _ => true
  | .detachLimitWrite _ => true
  | .resyncWaitWrite _ => true
  | .tickCountLowRead => true
  | .interruptFlagsWrite _ => true
  | .interruptEnablesWrite _ => true
  | .counterValueLowRead _ => true
  | .counterValueHighWrite _ _ => true
  | .counterValueLowWrite _ _ => true
  | .counterControlWrite _ _ _ => true
  | .counterOverflowFlagsWrite _ => true
  | .histogramIndexWrite _ => true
  | .stagingWrite _ _ => true

end Sys2Proof
end

