-- ==== Sys2Proof/Decode.lean ====
section
/-!
DEFINITION. The command that a word spells by the bits of spec/opcode_table.json. Every row of that table has an empty
"fields" list and no "fixed" bits: no row gives bits, so no word spells a command.
-/

namespace Sys2Proof

/-- The command spelled by the table's bits: none, since no row of the table gives bits. -/
def decodeTableWord (_nbits _w : Nat) : Option Instr := none

end Sys2Proof
end

