-- ==== Sys2Proof/Machine/State.lean ====
section
/-!
DEFINITION. The state of the UB-464, block by block as 00_scope.md lays the blocks out, and `State.reset`, the state right
after device reset (R27, R48, R67, R82, R95, R120, R135, R153, R173, R184, R195). Plain data throughout.
Counts that the manual defines from other state (in-use, outstanding, detached, free: R4; the line numbers: R69; INT_N: R183)
are not stored a second time: Ops.lean and Flags.lean compute them.
-/

namespace Sys2Proof.Machine

/-! ### The transaction tracker (chapter 1) -/

/-- Why a DETACHED entry was detached (R1), in the order of the map's codes. -/
inductive DetachCause where
  | timeout
  | fence
  | linkReset
  | offline
  | resync
deriving DecidableEq, Repr

/-- The state of an entry that is not FREE (1.2). The detach cause is present exactly in DETACHED (R1). -/
inductive Phase where
  | waiting
  | ready
  | issued
  | detached (cause : DetachCause)
deriving DecidableEq, Repr

/-- An initiator's class (R49). -/
inductive Cls where
  | normal
  | high
deriving DecidableEq, Repr

/-- The record of an entry that is not FREE (R1). The initiator tag is present in WAITING, READY and ISSUED; the expiry tick
there too, when the deadline was not 0; the write data is the empty list where it is absent. -/
structure Entry where
  phase : Phase
  initiator : Initiator
  tag : Option Tag
  op : Op
  requestAddress : Addr
  targetAddress : Addr
  beats : Nat
  window : WindowIdx
  cls : Cls
  admissionTick : Tick
  expiryTick : Option Tick
  writeData : List WriteBeat
  predecessors : List EntryIdx
  successors : List EntryIdx
deriving DecidableEq, Repr

/-! ### Initiator ports (chapters 2 and 8) -/

/-- The four states of an initiator port (R137). -/
inductive PortState where
  | disabled
  | active
  | draining
  | fenced
deriving DecidableEq, Repr

/-- One initiator port: its state, its granted count (R38) and its ingress queue, the head first (R45). -/
structure Port where
  state : PortState
  granted : Nat
  queue : List Request
deriving DecidableEq, Repr

/-! ### Admission controller (chapter 3) -/

/-- Why a head waits (R53). -/
inductive WaitReason where
  | target
  | halt
  | budget
  | quota
deriving DecidableEq, Repr

/-- The head status of an initiator (R53); `noHead` is the manual's NONE. -/
inductive HeadStatus where
  | noHead
  | eligible
  | waiting (reason : WaitReason)
deriving DecidableEq, Repr

/-- An initiator's mode (R49). -/
inductive Mode where
  | free
  | metered
  | halted
deriving DecidableEq, Repr

/-- The seven writable fields of an initiator profile (R49). The remaining budget is the regulation unit's. -/
structure Profile where
  cls : Cls
  mode : Mode
  budget : Nat
  carryLimit : Nat
  reserved : Nat
  cap : Nat
  deadline : Nat
deriving DecidableEq, Repr

/-- The admission controller: profiles, head statuses and the two round-robin pointers (R49, R53, R62). -/
structure Admission where
  profiles : Vector Profile 4
  heads : Vector HeadStatus 4
  highPointer : Initiator
  normalPointer : Initiator
deriving DecidableEq, Repr

/-! ### Window table (chapter 4) -/

/-- What a window grants one initiator (R76). -/
inductive Right where
  | none
  | read
  | write
  | readWrite
deriving DecidableEq, Repr

/-- A window's ordering mode (R69). -/
inductive WindowOrdering where
  | ordered
  | unordered
deriving DecidableEq, Repr

/-- One window record (R69). The three lines are line numbers, 0-67,108,863. -/
structure Window where
  enabled : Bool
  baseLine : Nat
  limitLine : Nat
  remapLine : Nat
  ordering : WindowOrdering
  rights : Vector Right 4
deriving DecidableEq, Repr

/-! ### Regulation unit (chapter 5) -/

/-- A RUNNING timer. `ticks` is the elapsed count of the period timer (R83) or the ticks left of the resync wait timer (R97).
`expiryDue`, the model's own: the tick that is the timer's expiry has come, and its block has not yet taken that tick, which changes the
count only as part of the expiry (R86, R112, R121; log entry 3). A timer that stops or restarts drops it. -/
structure RunningTimer where
  ticks : Nat
  expiryDue : Bool := false
deriving DecidableEq, Repr

/-- The regulation unit (R83). `timer` is none when STOPPED. -/
structure Regulation where
  remaining : Vector Nat 4
  period : Nat
  timer : Option RunningTimer
deriving DecidableEq, Repr

/-! ### Target port (chapter 6) -/

/-- The four target states (6.1). -/
inductive TargetState where
  | offline
  | resyncing
  | online
  | suspect
deriving DecidableEq, Repr

/-- The target port (R97). Queues have their head first. `resyncTimer` is none when STOPPED. -/
structure TargetPort where
  state : TargetState
  credits : Nat
  highQueue : List EntryIdx
  normalQueue : List EntryIdx
  consecutiveHigh : Nat
  resyncTimer : Option RunningTimer
  resyncWait : Nat
  detachLimit : Nat
deriving DecidableEq, Repr

/-! ### Timebase (chapter 7) -/

/-- The timebase of the deadline monitor (R121). -/
structure Timebase where
  prescaler : Nat
  progress : Nat
  count : Tick
  highHolding : Word
deriving DecidableEq, Repr

/-! ### Monitor (chapter 9) -/

/-- The EDGE memory of a counter (R155). -/
inductive EdgeMemory where
  | below
  | atOrAbove
deriving DecidableEq, Repr

/-- A counter's control (R156). Event, mode and qualifier are held as the codes written, since undefined codes read back as
written. -/
structure Control where
  enable : Bool
  event : BitVec 4
  mode : BitVec 3
  qualifier : BitVec 3
  mask : BitVec 4
  overflowInterrupt : Bool
  freezeOnOverflow : Bool
  threshold : BitVec 8
deriving DecidableEq, Repr

/-- One counter (R155). -/
structure Counter where
  value : BitVec 32
  control : Control
  overflow : Bool
  edgeMemory : EdgeMemory
  readHolding : Word
  writeHolding : Word
deriving DecidableEq, Repr

/-- The bank state (R163). -/
inductive BankState where
  | running
  | frozen
deriving DecidableEq, Repr

/-- The monitor (R155). Edge k is E(k+1); `bins` holds eight bins for each initiator. -/
structure Monitor where
  counters : Vector Counter 6
  bank : BankState
  edges : Vector Nat 7
  bins : Vector (Vector Nat 8) 4
deriving DecidableEq, Repr

/-! ### Fault log and interrupts (chapter 10) -/

/-- The kinds of fault record, in the order of R175. -/
inductive FaultKind where
  | creditOverrun
  | dupTag
  | malformed
  | linkReset
  | strayResponse
  | lateResponse
  | badResponse
  | timeout
  | targetCreditOverflow
  | resyncTimeout
  | unexpectedAck
deriving DecidableEq, Repr

/-- Who the fault came from (R175). -/
inductive FaultSource where
  | initiator (i : Initiator)
  | target
deriving DecidableEq, Repr

/-- The state at expiry that a TIMEOUT record carries (R175). -/
inductive ExpiryState where
  | waiting
  | ready
  | issued
deriving DecidableEq, Repr

/-- What a block hands the fault log: every field of the record but the tick (R175). -/
structure FaultReport where
  kind : FaultKind
  source : FaultSource
  tag : Option Tag := none
  entry : Option EntryIdx := none
  address : Option Addr := none
  cause : Option DetachCause := none
  expiryState : Option ExpiryState := none
deriving DecidableEq, Repr

/-- A fault record as the log stores it (R175). -/
structure FaultRecord where
  report : FaultReport
  tick : Tick
deriving DecidableEq, Repr

/-- The interrupt flags and enables (R181, R183), bit places as in the map: 0-3 DRAIN_DONE, 4-7 PORT_RESET, 8 TARGET_STATE,
9 FAULT, 10 FAULT_LOST, 11 COUNTER_OVF, 12 BUDGET_WAIT, 13 COMMAND_REFUSED, 14 CONFIG_ERROR. -/
structure Interrupts where
  flags : BitVec 15
  enables : BitVec 15
deriving DecidableEq, Repr

/-! ### Management port (chapter 11) -/

/-- The command statuses (register 0x16). -/
inductive CommandStatus where
  | done
  | refusedState
  | invalid
  | unknown
deriving DecidableEq, Repr

/-- One dependency list as a snapshot shows it (R26): its count, its lowest eight indices, and the overflow indication. -/
structure ListImage where
  count : Nat
  slots : List EntryIdx
  overflow : Bool
deriving DecidableEq, Repr

/-- The inspection registers (R25). `phase` none is FREE; an absent field is none or, for op to class, the 0 value. -/
structure Snapshot where
  phase : Option Phase
  initiator : Initiator
  tag : Option Tag
  op : Op
  requestAddress : Addr
  targetAddress : Addr
  beats : Nat
  window : WindowIdx
  cls : Cls
  admissionTick : Tick
  expiryTick : Option Tick
  writeDataHeld : Bool
  predecessors : ListImage
  successors : ListImage
deriving DecidableEq, Repr

/-- The management port's own state (chapter 11; R189; R193), and `busData`, the word the last read drove on
MD15-MD0 (the model's own field, log entry 5). -/
structure Management where
  argument : Word
  command : Word
  status : CommandStatus
  staging : Vector Word 8
  histogramBin : Fin 8
  histogramInitiator : Initiator
  snapshot : Snapshot
  busData : Option Word
deriving DecidableEq, Repr

/-! ### What the part sends (chapter 2) -/

/-- The status of a RESPONSE to an initiator, in the order of the codes of R30. -/
inductive Status where
  | okay
  | errTarget
  | errTimeout
  | errDecode
  | errDenied
  | errRefused
deriving DecidableEq, Repr

/-- A message from the part to an initiator (R33, R34). -/
inductive ToInitiator where
  | response (tag : Tag) (status : Status) (data : List DataBeat)
  | credit (count : Nat)
  | revoke
  | linkReset
deriving DecidableEq, Repr

/-- A message from the part to the target (R36). -/
inductive ToTarget where
  | request (tag : EntryIdx) (op : Op) (beats : Nat) (address : Addr) (data : List WriteBeat)
  | resync
  | linkReset
deriving DecidableEq, Repr

/-- Every message the part has sent, oldest first, one stream for each link (R29, R47): the model's own record of the outputs
(log entry 5). -/
structure Links where
  toInitiator : Vector (List ToInitiator) 4
  toTarget : List ToTarget
deriving DecidableEq, Repr

/-! ### The whole part -/

/-- The state of the UB-464. `rstN` is the level of the pin RST_N, true when it is high (R195). Three fields are the model's own:
`sampleOwed`, the monitor has not yet taken the last tick (R121, R159; log entry 3); `choices`, how many free orders have been taken (log
entries 1 and 3); `pending`, the commands that wait, first in first out (log entry 6). -/
structure State where
  tracker : Vector (Option Entry) 64
  ports : Vector Port 4
  admission : Admission
  windows : Vector Window 8
  regulation : Regulation
  target : TargetPort
  timebase : Timebase
  monitor : Monitor
  faultLog : List FaultRecord
  interrupts : Interrupts
  management : Management
  links : Links
  rstN : Bool
  sampleOwed : Bool
  choices : Nat
  pending : List Instr
deriving DecidableEq, Repr

/-- The reasons the part could stop with a fault. There is none: the manual gives every command an effect in every state. -/
inductive Fault where
deriving DecidableEq, Repr

/-- The reasons the model could refuse a command. -/
inductive Refusal where
  /-- Raised by `exec`'s arm of a command that has no meaning yet; no arm does. Safe: the model stops. -/
  | notModelled (mnemonic : String)
deriving DecidableEq, Repr

/-! ### Device reset -/

/-- A closed port with nothing in it (R153). -/
def Port.reset : Port := { state := .disabled, granted := 0, queue := [] }

/-- The reset profile (R49). -/
def Profile.reset : Profile :=
  { cls := .normal, mode := .free, budget := 0, carryLimit := 0, reserved := 4, cap := 64, deadline := 0 }

/-- The reset window record (R69). -/
def Window.reset : Window :=
  { enabled := false, baseLine := 0, limitLine := 0, remapLine := 0, ordering := .ordered,
    rights := Vector.replicate 4 .none }

/-- The reset control (R156). -/
def Control.reset : Control :=
  { enable := false, event := 0, mode := 0, qualifier := 0, mask := 0, overflowInterrupt := false,
    freezeOnOverflow := false, threshold := 0 }

/-- The reset counter (R155). -/
def Counter.reset : Counter :=
  { value := 0, control := .reset, overflow := false, edgeMemory := .below, readHolding := 0, writeHolding := 0 }

/-- The image of an empty list (R26). -/
def ListImage.empty : ListImage := { count := 0, slots := [], overflow := false }

/-- The image of a FREE entry (R25). -/
def Snapshot.free : Snapshot :=
  { phase := none, initiator := 0, tag := none, op := .read, requestAddress := 0, targetAddress := 0, beats := 0,
    window := 0, cls := .normal, admissionTick := 0, expiryTick := none, writeDataHeld := false,
    predecessors := .empty, successors := .empty }

/-- The part right after device reset, RST_N high again (R195 and each chapter's reset rule). -/
def State.reset : State where
  tracker := Vector.replicate 64 none
  ports := Vector.replicate 4 .reset
  admission :=
    { profiles := Vector.replicate 4 .reset, heads := Vector.replicate 4 .noHead, highPointer := 3, normalPointer := 3 }
  windows := Vector.replicate 8 .reset
  regulation := { remaining := Vector.replicate 4 0, period := 0, timer := none }
  target :=
    { state := .offline, credits := 0, highQueue := [], normalQueue := [], consecutiveHigh := 0, resyncTimer := none,
      resyncWait := 4096, detachLimit := 16 }
  timebase := { prescaler := 100, progress := 0, count := 0, highHolding := 0 }
  monitor :=
    { counters := Vector.replicate 6 .reset, bank := .running, edges := #v[16, 32, 64, 128, 256, 512, 1024],
      bins := Vector.replicate 4 (Vector.replicate 8 0) }
  faultLog := []
  interrupts := { flags := 0, enables := 0 }
  management :=
    { argument := 0, command := 0, status := .done, staging := Vector.replicate 8 0, histogramBin := 0,
      histogramInitiator := 0, snapshot := .free, busData := none }
  links := { toInitiator := Vector.replicate 4 [], toTarget := [] }
  rstN := true
  sampleOwed := false
  choices := 0
  pending := []

end Sys2Proof.Machine
end

