-- ==== Sys2Proof/Machine/Ops.lean ====
section
/-!
DEFINITION. The named operations over the state: one accessor and one update for each numbered piece, the counts of the
tracker (R4), and the sending of messages (R47).
-/

namespace Sys2Proof.Machine

/-- Change one place of a table. -/
def updateAt {α : Type} {n : Nat} (v : Vector α n) (i : Fin n) (f : α → α) : Vector α n :=
  v.set i (f v[i])

/-- The initiators in ascending order. -/
def initiators : List Initiator := List.finRange 4

/-- The entry indices in ascending order, the order in which every claim takes entries (R10). -/
def entryIndices : List EntryIdx := List.finRange 64

/-! ### Entries -/

/-- WAITING, READY and ISSUED entries carry a live transaction (R3). -/
def Phase.live : Phase → Bool
  | .detached _ => false
  | _ => true

/-- Is the phase DETACHED, whatever the cause? -/
def Phase.isDetached : Phase → Bool
  | .detached _ => true
  | _ => false

/-- The line number of a byte address (R69). -/
def lineOf (a : Addr) : Nat := a.toNat / 64

/-- The target line of an entry (R1, R69). -/
def Entry.targetLine (e : Entry) : Nat := lineOf e.targetAddress

/-- The record of entry `x`, none when it is FREE. -/
def State.entry (s : State) (x : EntryIdx) : Option Entry := s.tracker[x]

/-- Replace the record of entry `x`. -/
def State.setEntry (s : State) (x : EntryIdx) (e : Option Entry) : State :=
  { s with tracker := s.tracker.set x e }

/-- Change every entry at once, each by its index. -/
def State.mapEntries (s : State) (f : EntryIdx → Option Entry → Option Entry) : State :=
  { s with tracker := Vector.ofFn fun x => f x s.tracker[x] }

/-- How many entries satisfy `p`. -/
def State.countEntries (s : State) (p : Entry → Bool) : Nat :=
  entryIndices.countP fun x => (s.entry x).any p

/-- In-use(i): the entries of initiator `i` in any state but FREE (R4). -/
def State.inUse (s : State) (i : Initiator) : Nat := s.countEntries fun e => e.initiator == i

/-- Outstanding(i): the entries of initiator `i` in WAITING, READY or ISSUED (R4). -/
def State.outstanding (s : State) (i : Initiator) : Nat := s.countEntries fun e => e.initiator == i && e.phase.live

/-- The detached count (R4). -/
def State.detachedCount (s : State) : Nat := s.countEntries fun e => e.phase.isDetached

/-- The free count: 64 minus the sum of in-use over the four initiators (R4). -/
def State.freeCount (s : State) : Nat := 64 - (initiators.map s.inUse).sum

/-! ### RST_N (R195) -/

/-- What reaches the part acts only while RST_N is high. While it is low an access is ignored, an arriving message is lost, the timebase
does not count, and nothing is sent (R195). -/
def State.outOfReset (s : State) (f : State → State) : State := if s.rstN then f s else s

/-! ### Ports, heads, profiles, budgets -/

/-- Initiator port `i`. -/
def State.port (s : State) (i : Initiator) : Port := s.ports[i]

/-- Change initiator port `i`. -/
def State.modPort (s : State) (i : Initiator) (f : Port → Port) : State := { s with ports := updateAt s.ports i f }

/-- The head status of initiator `i` (R53). -/
def State.head (s : State) (i : Initiator) : HeadStatus := s.admission.heads[i]

/-- Set the head status of initiator `i`. -/
def State.setHead (s : State) (i : Initiator) (h : HeadStatus) : State :=
  { s with admission := { s.admission with heads := s.admission.heads.set i h } }

/-- The profile of initiator `i` (R49). -/
def State.profile (s : State) (i : Initiator) : Profile := s.admission.profiles[i]

/-- The remaining budget of initiator `i` (R83). -/
def State.remaining (s : State) (i : Initiator) : Nat := s.regulation.remaining[i]

/-- Set the remaining budget of initiator `i`. -/
def State.setRemaining (s : State) (i : Initiator) (n : Nat) : State :=
  { s with regulation := { s.regulation with remaining := s.regulation.remaining.set i n } }

/-! ### Messages sent (R47) -/

/-- The messages sent to initiator `i`, oldest first. -/
def State.sentTo (s : State) (i : Initiator) : List ToInitiator := s.links.toInitiator[i]

/-- Send a message on initiator link `i` (R47). -/
def State.send (s : State) (i : Initiator) (m : ToInitiator) : State :=
  { s with links := { s.links with toInitiator := updateAt s.links.toInitiator i (· ++ [m]) } }

/-- Send a message on the target link (R36). -/
def State.sendTarget (s : State) (m : ToTarget) : State :=
  { s with links := { s.links with toTarget := s.links.toTarget ++ [m] } }

/-- Return one credit to initiator `i`: the granted count rises by 1 and CREDIT 1 is sent (R38, R39). -/
def State.returnCredit (s : State) (i : Initiator) : State :=
  (s.modPort i fun p => { p with granted := p.granted + 1 }).send i (.credit 1)

/-! ### Words and their fields -/

/-- Bits `pos` to `pos + width - 1` of a bus word, as a number. -/
def bits (w : Word) (pos width : Nat) : Nat := w.toNat / 2 ^ pos % 2 ^ width

/-- The low word of a 32-bit value. -/
def lowWord (v : BitVec 32) : Word := v.extractLsb' 0 16

/-- The high word of a 32-bit value. -/
def highWord (v : BitVec 32) : Word := v.extractLsb' 16 16

/-- A 32-bit value from its high and low words. -/
def joinWords (hi lo : Word) : BitVec 32 := hi ++ lo

end Sys2Proof.Machine
end

