-- ==== Sys2Proof/Machine/Flags.lean ====
section
/-!
DEFINITION. The interrupt controller (10.4) and the storing of fault records (10.2): the two places every block reports to.
-/

namespace Sys2Proof.Machine

/-- The fifteen interrupt causes (10.4). -/
inductive Cause where
  | drainDone (i : Initiator)
  | portReset (i : Initiator)
  | targetState
  | fault
  | faultLost
  | counterOvf
  | budgetWait
  | commandRefused
  | configError
deriving DecidableEq, Repr

/-- The bit place of a cause in registers 0x10 and 0x11 (11.2). -/
def Cause.place : Cause → Nat
  | .drainDone i => i
  | .portReset i => 4 + i
  | .targetState => 8
  | .fault => 9
  | .faultLost => 10
  | .counterOvf => 11
  | .budgetWait => 12
  | .commandRefused => 13
  | .configError => 14

/-- The flag register with only this cause set. -/
def Cause.mask (c : Cause) : BitVec 15 := BitVec.twoPow 15 c.place

/-- Is the flag of the cause set? -/
def State.flag (s : State) (c : Cause) : Bool := s.interrupts.flags.getLsbD c.place

/-- A report of a cause sets its flag, and a set flag stays set (R181). -/
def State.raise (s : State) (c : Cause) : State :=
  { s with interrupts := { s.interrupts with flags := s.interrupts.flags ||| c.mask } }

/-- Writing 1 clears a flag, writing 0 leaves it (R182). -/
def State.clearFlags (s : State) (w : Word) : State :=
  { s with interrupts := { s.interrupts with flags := s.interrupts.flags &&& ~~~(w.setWidth 15) } }

/-- A write of the enable register replaces all fifteen enables (R183). -/
def State.writeEnables (s : State) (w : Word) : State :=
  { s with interrupts := { s.interrupts with enables := w.setWidth 15 } }

/-- INT_N is driven low while at least one flag is set whose enable is on (R183); while RST_N is low it is released (R195). -/
def State.intLow (s : State) : Bool := s.rstN && s.interrupts.flags &&& s.interrupts.enables != 0

/-- A record handed to the fault log (R177, R178). With fewer than 16 records it gains its tick, is appended, and FAULT is
reported; a full log drops it and reports FAULT_LOST. -/
def State.logFault (s : State) (r : FaultReport) : State :=
  if s.faultLog.length < Config.logPlaces then
    State.raise { s with faultLog := s.faultLog ++ [{ report := r, tick := s.timebase.count }] } .fault
  else
    s.raise .faultLost

end Sys2Proof.Machine
end

