-- ==== Sys2Proof/Machine/Monitor.lean ====
section
/-!
DEFINITION. The monitor (chapter 9): what a counter takes, what an add does, the samples of a tick, the histograms and the
three bank commands' effects.
-/

namespace Sys2Proof.Machine

/-! ### Codes (R158, R159, 11.2) -/

/-- The thirteen events, in the order of their codes (11.2). -/
inductive Event where
  | admitted
  | beatsAdmitted
  | refused
  | completed
  | timedOut
  | late
  | depWait
  | issue
  | headWait
  | trackerUse
  | ingressUse
  | creditEmpty
  | ticks
deriving DecidableEq, Repr

/-- The event a control's code names; codes 13-15 are undefined (R156). -/
def Event.ofCode (c : BitVec 4) : Option Event :=
  match c.toNat with
  | 0 => some .admitted
  | 1 => some .beatsAdmitted
  | 2 => some .refused
  | 3 => some .completed
  | 4 => some .timedOut
  | 5 => some .late
  | 6 => some .depWait
  | 7 => some .issue
  | 8 => some .headWait
  | 9 => some .trackerUse
  | 10 => some .ingressUse
  | 11 => some .creditEmpty
  | 12 => some .ticks
  | _ => none

/-- How many qualifier values an event defines, `any` included; none for an event without a qualifier (R158, R159). -/
def Event.qualifiers : Event → Option Nat
  | .admitted => some 3
  | .beatsAdmitted => some 3
  | .refused => some 5
  | .completed => some 3
  | .timedOut => some 3
  | .late => none
  | .depWait => none
  | .issue => some 3
  | .headWait => some 5
  | .trackerUse => some 3
  | .ingressUse => none
  | .creditEmpty => none
  | .ticks => none

/-- The values read at each tick rather than reported (R159). -/
def Event.sampled : Event → Bool
  | .headWait => true
  | .trackerUse => true
  | .ingressUse => true
  | .creditEmpty => true
  | .ticks => true
  | _ => false

/-- The four modes of a counter (R156). -/
inductive CountMode where
  | count
  | threshold
  | edge
  | accumulate
deriving DecidableEq, Repr

/-- The mode a control's code names; codes 4-7 are undefined (R156). -/
def CountMode.ofCode (c : BitVec 3) : Option CountMode :=
  match c.toNat with
  | 0 => some .count
  | 1 => some .threshold
  | 2 => some .edge
  | 3 => some .accumulate
  | _ => none

/-- Is the qualifier code one the event defines? For an event without a qualifier any code is accepted (R156). -/
def Event.acceptsQualifier (e : Event) (q : BitVec 3) : Bool :=
  match e.qualifiers with
  | some n => q.toNat < n
  | none => true

/-- The event and mode of a control that is enabled and holds defined codes in every field; none when the counter takes no add
(R156). -/
def Control.counting (c : Control) : Option (Event × CountMode) :=
  match Event.ofCode c.event, CountMode.ofCode c.mode with
  | some e, some m => if c.enable && e.acceptsQualifier c.qualifier then some (e, m) else none
  | _, _ => none

/-- Is the initiator in the control's mask? -/
def Control.masks (c : Control) (i : Initiator) : Bool := c.mask.getLsbD i

/-! ### Adds (R157, R160, R162) -/

/-- Counter `c`. -/
def State.counter (s : State) (c : CounterIdx) : Counter := s.monitor.counters[c]

/-- Change counter `c`. -/
def State.modCounter (s : State) (c : CounterIdx) (f : Counter → Counter) : State :=
  { s with monitor := { s.monitor with counters := updateAt s.monitor.counters c f } }

/-- Set the bank state (R163). -/
def State.setBank (s : State) (b : BankState) : State := { s with monitor := { s.monitor with bank := b } }

/-- One add of `n` to counter `c` (R162): the sum modulo 2^32; past 2^32 - 1 the overflow flag is set, COUNTER_OVF is reported
when the control's overflow interrupt is on, and the bank becomes FROZEN when its freeze-on-overflow is on. -/
def State.addTo (s : State) (c : CounterIdx) (n : Nat) : State :=
  let old := s.counter c
  let sum := old.value.toNat + n
  if sum < 2 ^ 32 then
    s.modCounter c fun k => { k with value := BitVec.ofNat 32 sum }
  else
    let s := s.modCounter c fun k => { k with value := BitVec.ofNat 32 sum, overflow := true }
    let s := if old.control.overflowInterrupt then s.raise .counterOvf else s
    if old.control.freezeOnOverflow then s.setBank .frozen else s

/-- A counted event as a block reports it (R158): the qualifier value it carries (0 where the event has none) and its amount. -/
structure Report where
  event : Event
  initiator : Initiator
  qualifier : Nat := 0
  amount : Nat := 1
deriving DecidableEq, Repr

/-- Does the control take the report (R157)? Qualifier 0 is `any`, and is not read for an event without a qualifier. -/
def Control.takes (c : Control) (r : Report) : Bool :=
  match c.counting with
  | some (e, _) =>
    e == r.event && c.masks r.initiator &&
      (c.qualifier == 0 || e.qualifiers == none || c.qualifier.toNat == r.qualifier)
  | none => false

/-- Offer one report to counter `c` (R157, R160). -/
def State.offer (s : State) (c : CounterIdx) (r : Report) : State :=
  if s.monitor.bank == .running && (s.counter c).control.takes r then s.addTo c r.amount else s

/-! ### Histograms (R169, R170) -/

/-- The bin a latency falls in: the number of leading edges it has reached (R169). -/
def binOf (edges : Vector Nat 7) (latency : Nat) : Nat := (edges.toList.takeWhile (· ≤ latency)).length

/-- A binning adds 1 to the bin, which stops at 65535 (R169, R170). -/
def State.binLatency (s : State) (i : Initiator) (latency : Tick) : State :=
  if s.monitor.bank == .running then
    let add : Vector Nat 8 → Vector Nat 8 := fun bins =>
      Vector.ofFn (fun k => if k.val = binOf s.monitor.edges latency.toNat then min 65535 (bins[k] + 1) else bins[k])
    { s with monitor := { s.monitor with bins := updateAt s.monitor.bins i add } }
  else s

/-! ### The order of adds (R164) -/

/-- The order a number stands for: an arrangement of the list read off digit by digit, so that every arrangement of a list is
some number's. -/
def arrange {α : Type} (n : Nat) : List α → List α
  | [] => []
  | a :: l =>
    let k := n % (l.length + 1)
    let rest := arrange (n / (l.length + 1)) l
    rest.take k ++ a :: rest.drop k

/-- The things of the monitor that one report or one tick reaches: the six counters, and none for the histogram bin. -/
def monitorItems : List (Option CounterIdx) := (List.finRange 6).map some ++ [none]

/-- Could an add taken now freeze the bank? -/
def Monitor.mayFreeze (m : Monitor) : Bool :=
  m.bank == .running && m.counters.toList.any fun c => c.control.enable && c.control.freezeOnOverflow

/-- Take the adds of one report or one tick, each an event of its own, and the binning that goes with them (R157, R164). Their
order matters only when one of them may freeze the bank: then it is free (`Config.addOrder`, log entry 1). -/
def State.inAnyOrder (s : State) (f : Option CounterIdx → State → State) : State :=
  if s.monitor.mayFreeze then
    (arrange (Config.addOrder s.choices) monitorItems).foldl (fun t k => f k t) { s with choices := s.choices + 1 }
  else
    monitorItems.foldl (fun t k => f k t) s

/-- The reports that go together (those of one admission), with the latency of a completion if there is one: offered to all six
counters and binned (R157, R169). -/
def State.report (s : State) (rs : List Report) (latency : Option (Initiator × Tick) := none) : State :=
  s.inAnyOrder fun k t =>
    match k with
    | some c => rs.foldl (fun t r => t.offer c r) t
    | none =>
      match latency with
      | some (i, n) => t.binLatency i n
      | none => t

/-! ### Samples (R159, R161) -/

/-- The wait reason that a HEAD_WAIT qualifier admits (R159). -/
def HeadStatus.admittedBy (h : HeadStatus) (q : BitVec 3) : Bool :=
  match h with
  | .waiting r =>
    match q.toNat with
    | 0 => true
    | 1 => r == .budget
    | 2 => r == .quota
    | 3 => r == .target
    | 4 => r == .halt
    | _ => false
  | _ => false

/-- The entry state that a TRACKER_USE qualifier admits (R159). -/
def Phase.admittedBy (p : Phase) (q : BitVec 3) : Bool :=
  match q.toNat with
  | 0 => true
  | 1 => p == .issued
  | 2 => p.isDetached
  | _ => false

/-- The value a control samples at a tick (R159); 0 for an event that is not sampled. -/
def State.sampleValue (s : State) (c : Control) : Event → Nat
  | .headWait => initiators.countP fun i => c.masks i && (s.head i).admittedBy c.qualifier
  | .trackerUse => s.countEntries fun e => c.masks e.initiator && e.phase.admittedBy c.qualifier
  | .ingressUse => (initiators.map fun i => if c.masks i then (s.port i).queue.length else 0).sum
  | .creditEmpty =>
    if s.target.credits = 0 ∧ (s.target.highQueue ≠ [] ∨ s.target.normalQueue ≠ []) then 1 else 0
  | .ticks => 1
  | _ => 0

/-- What a sample adds, by the mode (R161). -/
def sampleAdd (m : CountMode) (value threshold : Nat) (memory : EdgeMemory) : Nat :=
  match m with
  | .count => if 0 < value then 1 else 0
  | .accumulate => value
  | .threshold => if threshold ≤ value then 1 else 0
  | .edge => if threshold ≤ value ∧ memory = .below then 1 else 0

/-- Counter `c` takes its sample at a tick (R161). In EDGE mode the memory becomes the result of this tick's comparison, in one
event with the add. -/
def State.sample (s : State) (c : CounterIdx) : State :=
  if s.monitor.bank == .running then
    let k := s.counter c
    match k.control.counting with
    | some (e, m) =>
      if e.sampled then
        let v := s.sampleValue k.control e
        let n := sampleAdd m v k.control.threshold.toNat k.edgeMemory
        let s := if m = .edge then
            s.modCounter c fun k => { k with edgeMemory := if k.control.threshold.toNat ≤ v then .atOrAbove else .below }
          else s
        s.addTo c n
      else s
    | none => s
  else s

/-- The monitor takes a tick: every counter its sample (R159, R161). -/
def State.sampleAll (s : State) : State :=
  s.inAnyOrder fun k t =>
    match k with
    | some c => t.sample c
    | none => t

/-! ### Control and value writes (R156, R166, R167) and the bank commands (R165) -/

/-- A write of control word A or B: the written fields take effect and the EDGE memory becomes BELOW (R156, 11.2). -/
def State.writeControl (s : State) (c : CounterIdx) (w : ControlWord) (v : Word) : State :=
  s.modCounter c fun k =>
    { k with
      edgeMemory := .below
      control :=
        match w with
        | .a => { k.control with enable := v.getLsbD 0, event := v.extractLsb' 1 4, mode := v.extractLsb' 5 3,
                                 qualifier := v.extractLsb' 8 3 }
        | .b => { k.control with mask := v.extractLsb' 0 4, overflowInterrupt := v.getLsbD 4,
                                 freezeOnOverflow := v.getLsbD 5, threshold := v.extractLsb' 8 8 } }

/-- A high-word write fills the write holding value (R167). -/
def State.writeCounterHigh (s : State) (c : CounterIdx) (v : Word) : State :=
  s.modCounter c fun k => { k with writeHolding := v }

/-- A low-word write sets the counter to the write holding value times 65536 plus the word (R167). -/
def State.writeCounterLow (s : State) (c : CounterIdx) (v : Word) : State :=
  s.modCounter c fun k => { k with value := joinWords k.writeHolding v }

/-- Writing 1 clears an overflow flag (R162). -/
def State.clearOverflows (s : State) (v : Word) : State :=
  let cleared : CounterIdx → Counter := fun c =>
    { s.counter c with overflow := (s.counter c).overflow && !v.getLsbD c }
  { s with monitor := { s.monitor with counters := Vector.ofFn cleared } }

/-- COUNTER_CLEAR's effect: values 0, flags clear, EDGE memories BELOW (R165). -/
def State.clearCounters (s : State) : State :=
  let cleared : Counter → Counter := fun k => { k with value := 0, overflow := false, edgeMemory := .below }
  { s with monitor := { s.monitor with counters := s.monitor.counters.map cleared } }

/-- HIST_CLEAR i's effect: the eight bins of the initiator become 0 (R170). -/
def State.clearBins (s : State) (i : Initiator) : State :=
  { s with monitor := { s.monitor with bins := s.monitor.bins.set i (Vector.replicate 8 0) } }

end Sys2Proof.Machine
end

