-- ==== Sys2Proof/Machine/Operands.lean ====
section
/-!
DEFINITION. The operands of the commands: the argument register's range (R191), the record images of the staging area
(R188) and the checks a commit makes of them (R50, R71, R168), and the completion of a command (R190, R191).
-/

namespace Sys2Proof.Machine

/-- The argument register as an index below `n`, none when it is out of range (R191). -/
def State.argument (s : State) (n : Nat) : Option (Fin n) :=
  if h : s.management.argument.toNat < n then some ⟨s.management.argument.toNat, h⟩ else none

/-- A word of the staging area (R188). -/
def State.staged (s : State) (k : Fin 8) : Word := s.management.staging[k]

/-- Set one word of the staging area (R188). -/
def State.setStaged (s : State) (k : Fin 8) (v : Word) : State :=
  { s with management := { s.management with staging := s.management.staging.set k v } }

/-- Replace the whole staging area, as READ_WINDOW and READ_PROFILE do (R188). -/
def State.setStaging (s : State) (v : Vector Word 8) : State :=
  { s with management := { s.management with staging := v } }

/-! ### Window images (R71, R188) -/

/-- The enabled codes: 0 off, 1 on (R188). -/
def enabledOfCode : Nat → Option Bool
  | 0 => some false
  | 1 => some true
  | _ => none

/-- The ordering codes: 0 ORDERED, 1 UNORDERED (R188). -/
def orderingOfCode : Nat → Option WindowOrdering
  | 0 => some .ordered
  | 1 => some .unordered
  | _ => none

/-- The rights codes: 0 NONE, 1 READ, 2 WRITE, 3 READ_WRITE (R188). -/
def rightOfCode : Nat → Option Right
  | 0 => some .none
  | 1 => some .read
  | 2 => some .write
  | 3 => some .readWrite
  | _ => none

/-- The code of an ordering (R188). -/
def WindowOrdering.code : WindowOrdering → Nat
  | .ordered => 0
  | .unordered => 1

/-- The code of a right (R188). -/
def Right.code : Right → Nat
  | .none => 0
  | .read => 1
  | .write => 2
  | .readWrite => 3

/-- The two bounds every window record satisfies (R69). -/
def Window.withinBounds (w : Window) : Bool :=
  w.baseLine ≤ Config.maxLine && w.limitLine ≤ Config.maxLine && w.remapLine ≤ Config.maxLine &&
  w.baseLine ≤ w.limitLine && w.remapLine + (w.limitLine - w.baseLine) ≤ Config.maxLine

/-- The staged window record, none when a check of R71 refuses it. A line is the high word times 65536 plus the low word. -/
def State.stagedWindow (s : State) : Option Window :=
  match enabledOfCode (bits (s.staged 0) 0 8), orderingOfCode (bits (s.staged 0) 8 8),
        rightOfCode (bits (s.staged 1) 0 4), rightOfCode (bits (s.staged 1) 4 4),
        rightOfCode (bits (s.staged 1) 8 4), rightOfCode (bits (s.staged 1) 12 4) with
  | some en, some o, some r0, some r1, some r2, some r3 =>
    let w : Window :=
      { enabled := en, ordering := o, rights := #v[r0, r1, r2, r3]
        baseLine := (s.staged 3).toNat * 65536 + (s.staged 2).toNat
        limitLine := (s.staged 5).toNat * 65536 + (s.staged 4).toNat
        remapLine := (s.staged 7).toNat * 65536 + (s.staged 6).toNat }
    if w.withinBounds then some w else none
  | _, _, _, _, _, _ => none

/-- The low 16 bits of a number, as a word. -/
def lowOf (n : Nat) : Word := BitVec.ofNat 16 (n % 65536)

/-- Bits 16 to 31 of a number, as a word. -/
def highOf (n : Nat) : Word := BitVec.ofNat 16 (n / 65536 % 65536)

/-- The staging image of a window record (R73, R188). -/
def Window.image (w : Window) : Vector Word 8 :=
  #v[lowOf (w.enabled.toNat + w.ordering.code * 256),
     lowOf (w.rights[0].code + w.rights[1].code * 16 + w.rights[2].code * 256 + w.rights[3].code * 4096),
     lowOf w.baseLine, highOf w.baseLine, lowOf w.limitLine, highOf w.limitLine, lowOf w.remapLine, highOf w.remapLine]

/-! ### Profile images (R50, R52, R188) -/

/-- The class codes: 0 NORMAL, 1 HIGH (R188). -/
def clsOfCode : Nat → Option Cls
  | 0 => some .normal
  | 1 => some .high
  | _ => none

/-- The mode codes: 0 FREE, 1 METERED, 2 HALTED (R188). -/
def modeOfCode : Nat → Option Mode
  | 0 => some .free
  | 1 => some .metered
  | 2 => some .halted
  | _ => none

/-- The code of a class (R188, register 0x20). -/
def Cls.code : Cls → Nat
  | .normal => 0
  | .high => 1

/-- The code of a mode (R188). -/
def Mode.code : Mode → Nat
  | .free => 0
  | .metered => 1
  | .halted => 2

/-- The bounds every committed profile satisfies (R49, R50). -/
def Profile.withinBounds (p : Profile) : Bool :=
  p.reserved ≤ 16 && 1 ≤ p.cap && p.cap ≤ 64 && p.reserved ≤ p.cap

/-- The staged profile, none when a check of R50 refuses it. Words 6 and 7 are not taken. -/
def State.stagedProfile (s : State) : Option Profile :=
  match clsOfCode (bits (s.staged 0) 0 8), modeOfCode (bits (s.staged 0) 8 8) with
  | some c, some m =>
    let p : Profile :=
      { cls := c, mode := m, budget := (s.staged 1).toNat, carryLimit := (s.staged 2).toNat
        reserved := (s.staged 3).toNat, cap := (s.staged 4).toNat, deadline := (s.staged 5).toNat }
    if p.withinBounds then some p else none
  | _, _ => none

/-- The staging image of a profile with its remaining budget (R52, R188). -/
def Profile.image (p : Profile) (remaining : Nat) : Vector Word 8 :=
  #v[lowOf (p.cls.code + p.mode.code * 256), lowOf p.budget, lowOf p.carryLimit, lowOf p.reserved, lowOf p.cap,
     lowOf p.deadline, lowOf remaining, highOf remaining]

/-! ### Edge lists (R168) -/

/-- Seven edges, each above 0 and each above the one before it (R168). -/
def edgesValid (e : Vector Nat 7) : Bool :=
  0 < e[0] && e[0] < e[1] && e[1] < e[2] && e[2] < e[3] && e[3] < e[4] && e[4] < e[5] && e[5] < e[6]

/-- The staged edge list, none when R168 refuses it. The eighth word is not taken. -/
def State.stagedEdges (s : State) : Option (Vector Nat 7) :=
  let e : Vector Nat 7 :=
    #v[(s.staged 0).toNat, (s.staged 1).toNat, (s.staged 2).toNat, (s.staged 3).toNat, (s.staged 4).toNat,
       (s.staged 5).toNat, (s.staged 6).toNat]
  if edgesValid e then some e else none

/-! ### Completion of a command (R190, R191) -/

/-- The status a command's owner decided is written with the code taken; every status but DONE reports COMMAND_REFUSED
(R190, R191). -/
def State.complete (s : State) (code : Word) (st : CommandStatus) : State :=
  let s := { s with management := { s.management with command := code, status := st } }
  if st = .done then s else s.raise .commandRefused

/-- A command whose argument must be below `n`: out of range it is refused INVALID (R191), else its owner decides. -/
def State.withArgument (s : State) (n : Nat) (code : Word) (act : Fin n → State → State × CommandStatus) : State :=
  match s.argument n with
  | some k => ((act k s).1).complete code (act k s).2
  | none => s.complete code .invalid

end Sys2Proof.Machine
end

