-- ==== Sys2Proof/Machine/Admission.lean ====
section
/-!
DEFINITION. The admission controller's checks (chapter 3) over the window table (chapter 4), the budgets (chapter 5) and the
tracker's counts: lookup, the five steps, the refusal of a head, head arrival and the re-check.
-/

namespace Sys2Proof.Machine

/-! ### Lookup and remap (R74-R77) -/

/-- Does an enabled window hold the line (R74)? -/
def Window.holds (w : Window) (line : Nat) : Bool := w.enabled && w.baseLine ≤ line && line ≤ w.limitLine

/-- The window that decides a line: the lowest-numbered enabled record that holds it (R74, R75). -/
def State.lookup (s : State) (line : Nat) : Option WindowIdx := (List.finRange 8).find? fun w => s.windows[w].holds line

/-- The ops a right allows (R76). -/
def Right.allows : Right → Op → Bool
  | .none, _ => false
  | .read, .read => true
  | .read, .write => false
  | .write, .read => false
  | .write, .write => true
  | .readWrite, _ => true

/-- The target address of a request address decoded by the window (R77). -/
def Window.remap (w : Window) (a : Addr) : Addr :=
  BitVec.ofNat 32 (64 * (w.remapLine + (lineOf a - w.baseLine)) + a.toNat % 64)

/-! ### The quota rule (R58) -/

/-- The unfilled reservation of an initiator (R58). -/
def State.unfilled (s : State) (j : Initiator) : Nat := (s.profile j).reserved - s.inUse j

/-- The sum of the unfilled reservations of the other three initiators (R58). -/
def State.othersUnfilled (s : State) (i : Initiator) : Nat :=
  ((initiators.filter (· ≠ i)).map s.unfilled).sum

/-- The quota rule (R58): the cap condition, and one of the two share conditions. -/
def State.quotaAllows (s : State) (i : Initiator) : Bool :=
  s.inUse i + 1 ≤ (s.profile i).cap &&
  (1 + s.othersUnfilled i ≤ s.freeCount || (s.inUse i < (s.profile i).reserved && 1 ≤ s.freeCount))

/-! ### The five checks (R54) -/

/-- Why a head is refused (R61). -/
inductive HeadRefusal where
  | decode
  | denied
  | target
deriving DecidableEq, Repr

/-- The status a refused head is answered with (R61). -/
def HeadRefusal.status : HeadRefusal → Status
  | .decode => .errDecode
  | .denied => .errDenied
  | .target => .errTarget

/-- The REFUSED qualifier of a head refusal (R61, R158). -/
def HeadRefusal.qualifier : HeadRefusal → Nat
  | .decode => 1
  | .denied => 2
  | .target => 3

/-- What the five checks find (R54). -/
inductive Verdict where
  | refuse (why : HeadRefusal)
  | wait (reason : WaitReason)
  | pass
deriving DecidableEq, Repr

/-- The checks of a head of initiator `i`, in the order of R54: the first step that stops it decides. -/
def State.verdict (s : State) (i : Initiator) (r : Request) : Verdict :=
  match s.lookup (lineOf r.address) with
  | none => .refuse .decode
  | some w =>
    if !(s.windows[w].rights[i].allows r.op) then .refuse .denied
    else
      match s.target.state with
      | .offline => .refuse .target
      | .suspect => .refuse .target
      | .resyncing => .wait .target
      | .online =>
        match (s.profile i).mode with
        | .halted => .wait .halt
        | .metered =>
          if s.remaining i < r.beats then .wait .budget else if s.quotaAllows i then .pass else .wait .quota
        | .free => if s.quotaAllows i then .pass else .wait .quota

/-! ### Head removal, head arrival and re-check (R46, R53, R57, R60, R61) -/

/-- A head refused: the queue becomes `rest`, the RESPONSE goes out under the request's tag and then CREDIT 1 (R46), and one
REFUSED event is reported (R61). -/
def State.refuseHead (s : State) (i : Initiator) (r : Request) (rest : List Request) (why : HeadRefusal) : State :=
  (((s.modPort i fun p => { p with queue := rest }).send i (.response r.tag why.status [])).returnCredit i).report
    [{ event := .refused, initiator := i, qualifier := why.qualifier }]

/-- Check the requests of a queue from its head, until one stays (R53). A refused head is removed, and the next request arrives as
head, which counts as a change from NONE (R57). `prev` is the status before the check: a head whose status becomes WAITING for
BUDGET from any other status reports BUDGET_WAIT. -/
def State.checkQueue (i : Initiator) (prev : HeadStatus) : List Request → State → State
  | [], s => s.setHead i .noHead
  | r :: rest, s =>
    match s.verdict i r with
    | .refuse why => checkQueue i .noHead rest (s.refuseHead i r rest why)
    | .wait reason =>
      let t := s.setHead i (.waiting reason)
      if reason = .budget ∧ prev ≠ .waiting .budget then t.raise .budgetWait else t
    | .pass => s.setHead i .eligible

/-- A head arrives at port `i`, or the queue has become empty (R53). -/
def State.headArrives (s : State) (i : Initiator) : State := s.checkQueue i .noHead (s.port i).queue

/-- The re-check of initiator `i`: every head whose status is ELIGIBLE or WAITING is checked again from step 1 (R60). -/
def State.recheckOne (s : State) (i : Initiator) : State :=
  if s.head i = .noHead then s else s.checkQueue i (s.head i) (s.port i).queue

/-- The re-check of every present head (R60), in ascending initiator index (log entry 8). -/
def State.recheck (s : State) : State := initiators.foldl State.recheckOne s

end Sys2Proof.Machine
end

