-- ==== Sys2Proof/Machine/Tracker.lean ====
section
/-!
DEFINITION. The transaction tracker (chapter 1): freeing, detaching, allocation, issue, the claims that concern many
entries, the notices that follow a claim, and the snapshot.
-/

namespace Sys2Proof.Machine

/-! ### Answers and issue queues -/

/-- The tracker hands an answer to the entry's initiator, under the tag the entry binds (R11). -/
def State.answer (s : State) (e : Entry) (st : Status) (data : List DataBeat := []) : State :=
  match e.tag with
  | some t => s.send e.initiator (.response t st data)
  | none => s

/-- Entry `x` joins the tail of the issue queue of its class (R3, R98). -/
def State.enqueue (s : State) (x : EntryIdx) : State :=
  match s.entry x with
  | some e =>
    match e.cls with
    | .high => { s with target := { s.target with highQueue := s.target.highQueue ++ [x] } }
    | .normal => { s with target := { s.target with normalQueue := s.target.normalQueue ++ [x] } }
  | none => s

/-- Entry `x` leaves its issue queue wherever it stands; the entries behind it keep their order (R9). -/
def State.unqueue (s : State) (x : EntryIdx) : State :=
  { s with target := { s.target with
      highQueue := s.target.highQueue.filter (· ≠ x), normalQueue := s.target.normalQueue.filter (· ≠ x) } }

/-! ### Freeing (R9, R10) -/

/-- The entry without predecessor `x`: a WAITING entry whose list becomes empty moves to READY (R8, R9). -/
def Entry.dropPredecessor (f : Entry) (x : EntryIdx) : Entry :=
  let ps := f.predecessors.filter (· ≠ x)
  { f with predecessors := ps, phase := if f.phase = .waiting ∧ ps = [] then .ready else f.phase }

/-- The entry without successor `x` (R9). -/
def Entry.dropSuccessor (f : Entry) (x : EntryIdx) : Entry :=
  { f with successors := f.successors.filter (· ≠ x) }

/-- Does the freeing of `x` release this entry (R9)? -/
def Entry.releasedBy (f : Entry) (x : EntryIdx) : Bool :=
  f.phase = .waiting ∧ f.predecessors.filter (· ≠ x) = []

/-- What entry `y` becomes when `x`, whose record is `e`, is freed (R9 steps 2 to 4). -/
def unlink (x : EntryIdx) (e : Entry) (y : EntryIdx) (f : Option Entry) : Option Entry :=
  if y = x then none
  else
    f.map fun f =>
      let f := if y ∈ e.successors then f.dropPredecessor x else f
      if y ∈ e.predecessors then f.dropSuccessor x else f

/-- Freeing entry `x` (R9): it leaves its issue queue and the lists of its neighbours, its record is cleared, and the successors
it releases join their queues in ascending index (R10). A FREE entry stays as it is. -/
def State.freeEntry (s : State) (x : EntryIdx) : State :=
  match s.entry x with
  | none => s
  | some e =>
    let released := e.successors.filter fun y => (s.entry y).any fun f => f.releasedBy x
    released.foldl State.enqueue ((s.unqueue x).mapEntries (unlink x e))

/-! ### Detachment (R15) -/

/-- The record of a detached entry: its cause recorded, its tag binding and expiry tick dropped (R15, R132). -/
def Entry.detach (e : Entry) (c : DetachCause) : Entry :=
  { e with phase := .detached c, tag := none, expiryTick := none, writeData := [] }

/-- Detach entry `x` with a cause (R15). -/
def State.detachEntry (s : State) (x : EntryIdx) (e : Entry) (c : DetachCause) : State :=
  s.setEntry x (some (e.detach c))

/-! ### Claims that concern many entries (R17) -/

/-- An entry that a claim settled, with its record as the claim found it. -/
structure Settled where
  index : EntryIdx
  entry : Entry
deriving DecidableEq, Repr

/-- Settle entry `x` if it carries a live transaction the claim selects: a WAITING or READY entry is answered and freed, an ISSUED
entry is answered and detached with the claim's cause. A silent claim answers none (R18, R19, R20, R21). -/
def settleEntry (sel : EntryIdx → Entry → Bool) (answer : Option Status) (cause : DetachCause)
    (acc : State × List Settled) (x : EntryIdx) : State × List Settled :=
  match acc.1.entry x with
  | none => acc
  | some e =>
    if sel x e then
      let s := match answer with
        | some st => acc.1.answer e st
        | none => acc.1
      match e.phase with
      | .issued => (s.detachEntry x e cause, acc.2 ++ [{ index := x, entry := e }])
      | .waiting => (s.freeEntry x, acc.2 ++ [{ index := x, entry := e }])
      | .ready => (s.freeEntry x, acc.2 ++ [{ index := x, entry := e }])
      | .detached _ => acc
    else acc

/-- A claim over the selected live entries, in ascending index (R17), with the list of what it settled. -/
def State.claim (s : State) (sel : EntryIdx → Entry → Bool) (answer : Option Status) (cause : DetachCause) :
    State × List Settled :=
  entryIndices.foldl (settleEntry sel answer cause) (s, [])

/-- The expiry claim: every live entry whose expiry tick equals the count (R18, R127). -/
def State.expiryClaim (s : State) : State × List Settled :=
  s.claim (fun _ e => e.expiryTick == some s.timebase.count) (some .errTimeout) .timeout

/-- The fence claim of initiator `i` (R19). -/
def State.fenceClaim (s : State) (i : Initiator) : State :=
  (s.claim (fun _ e => e.initiator == i) (some .errRefused) .fence).1

/-- The link-reset claim of initiator `i` (R20): silent. -/
def State.linkResetClaim (s : State) (i : Initiator) : State :=
  (s.claim (fun _ e => e.initiator == i) none .linkReset).1

/-- The target-offline claim (R21). -/
def State.offlineClaim (s : State) : State := (s.claim (fun _ _ => true) (some .errTarget) .offline).1

/-- The resync claim: every ISSUED entry (R22). -/
def State.resyncClaim (s : State) : State :=
  (s.claim (fun _ e => e.phase == .issued) (some .errTarget) .resync).1

/-- Free entry `x` if it is DETACHED, without an answer (R23). -/
def State.acknowledgeEntry (s : State) (x : EntryIdx) : State :=
  match s.entry x with
  | some e => if e.phase.isDetached then s.freeEntry x else s
  | none => s

/-- The acknowledgement claim: every DETACHED entry (R23). -/
def State.acknowledgeClaim (s : State) : State := entryIndices.foldl State.acknowledgeEntry s

/-- Settle entry `x` for a reset notice: ISSUED is answered ERR_TARGET and freed, DETACHED is freed (R24). -/
def State.noticeEntry (s : State) (x : EntryIdx) : State :=
  match s.entry x with
  | some e =>
    match e.phase with
    | .issued => (s.answer e .errTarget).freeEntry x
    | .detached _ => s.freeEntry x
    | .waiting => s
    | .ready => s
  | none => s

/-- The notice claim (R24). -/
def State.noticeClaim (s : State) : State := entryIndices.foldl State.noticeEntry s

/-! ### Notices (R5, R60, R116) -/

/-- Change the target state and report TARGET_STATE (R118). -/
def State.changeTarget (s : State) (t : TargetState) : State :=
  State.raise { s with target := { s.target with state := t } } .targetState

/-- The detached-count rule (R114, R116): ONLINE with the count at or above the limit becomes SUSPECT. -/
def State.suspectIfReached (s : State) : State :=
  if s.target.state = .online ∧ s.target.detachLimit ≤ s.detachedCount then s.changeTarget .suspect else s

/-- The notices that follow a claim (R5), `before` being the state the claim was taken in. A changed detached count reaches the
target port together with the claim (R116). Freed entries, or a change of target state, start a re-check (R60).
The outstanding-zero notice is taken by DRAIN_COMPLETION (log entry 4). -/
def State.notices (before s : State) : State :=
  let t := if s.detachedCount ≠ before.detachedCount then s.suspectIfReached else s
  if t.freeCount ≠ before.freeCount ∨ t.target.state ≠ before.target.state then t.recheck else t

/-! ### Allocation (R6, R7, R8) -/

/-- The lowest-numbered FREE entry (R6). -/
def State.firstFree (s : State) : Option EntryIdx := entryIndices.find? fun x => (s.entry x).isNone

/-- Two transactions conflict when at least one is a WRITE (R7). -/
def conflicts (a b : Op) : Bool := a == .write || b == .write

/-- The predecessors of a new entry through a window of the given ordering (R7, R78): every entry that is not FREE, lies on the
same target line and conflicts; none when UNORDERED. -/
def State.predecessorsFor (s : State) (o : WindowOrdering) (line : Nat) (op : Op) : List EntryIdx :=
  match o with
  | .unordered => []
  | .ordered => entryIndices.filter fun x => (s.entry x).any fun e => e.targetLine == line && conflicts op e.op

/-- Insert an index into a list kept in ascending order (R2). -/
def insertAscending (x : EntryIdx) : List EntryIdx → List EntryIdx
  | [] => [x]
  | y :: l => if x < y then x :: y :: l else if x = y then y :: l else y :: insertAscending x l

/-- The entry with `x` added to its successors (R7). -/
def Entry.addSuccessor (e : Entry) (x : EntryIdx) : Entry := { e with successors := insertAscending x e.successors }

/-- The expiry tick of a new entry (R6, R125). -/
def expiryFor (admission : Tick) (deadline : Nat) : Option Tick :=
  if deadline = 0 then none else some (admission + BitVec.ofNat 32 deadline)

/-- The record a new entry takes (R6, R8). -/
def newEntry (s : State) (i : Initiator) (r : Request) (w : WindowIdx) (preds : List EntryIdx) : Entry :=
  { phase := if preds = [] then .ready else .waiting
    initiator := i
    tag := some r.tag
    op := r.op
    requestAddress := r.address
    targetAddress := s.windows[w].remap r.address
    beats := r.beats
    window := w
    cls := (s.profile i).cls
    admissionTick := s.timebase.count
    expiryTick := expiryFor s.timebase.count (s.profile i).deadline
    writeData := r.data
    predecessors := preds
    successors := [] }

/-- The predecessors a request takes through window `w` (R7). -/
def State.predecessorsOf (s : State) (r : Request) (w : WindowIdx) : List EntryIdx :=
  s.predecessorsFor s.windows[w].ordering (lineOf (s.windows[w].remap r.address)) r.op

/-- The allocation of entry `x` (R6, R7, R8): its record is filled, its index joins the successor list of each predecessor, and
with no predecessor it joins the issue queue of its class. -/
def State.allocate (s : State) (x : EntryIdx) (i : Initiator) (r : Request) (w : WindowIdx) : State :=
  let preds := s.predecessorsOf r w
  let e := newEntry s i r w preds
  let t := s.mapEntries fun y f =>
    if y = x then some e else if y ∈ preds then f.map fun f => f.addSuccessor x else f
  if preds = [] then t.enqueue x else t

/-! ### The snapshot (R25, R26) -/

/-- How a snapshot shows a dependency list (R26). -/
def listImage (l : List EntryIdx) : ListImage := { count := l.length, slots := l.take 8, overflow := 8 < l.length }

/-- The image of an entry (R25). -/
def snapshotOf : Option Entry → Snapshot
  | none => .free
  | some e =>
    { phase := some e.phase, initiator := e.initiator, tag := e.tag, op := e.op, requestAddress := e.requestAddress
      targetAddress := e.targetAddress, beats := e.beats, window := e.window, cls := e.cls
      admissionTick := e.admissionTick, expiryTick := e.expiryTick
      writeDataHeld := e.op = .write ∧ (e.phase = .waiting ∨ e.phase = .ready)
      predecessors := listImage e.predecessors, successors := listImage e.successors }

end Sys2Proof.Machine
end

