-- ==== Sys2Proof/Machine/Arbiters.lean ====
section
/-!
DEFINITION. The two arbiters: the admission arbiter with the admission it makes (R62-R64), and the issue arbiter with the
issue it makes (R99, R100).
-/

namespace Sys2Proof.Machine

/-! ### Admission (R62, R63, R64) -/

/-- A head that competes in a grant: ELIGIBLE, and passing the five checks against the state as it stands (R62, R63). -/
def State.candidate (s : State) (i : Initiator) : Bool :=
  s.head i = .eligible &&
  match (s.port i).queue with
  | [] => false
  | r :: _ => s.verdict i r = .pass

/-- The initiators in search order: from the index after the pointer, wrapping from 3 to 0 (R62). -/
def searchOrder (pointer : Initiator) : List Initiator := [pointer + 1, pointer + 2, pointer + 3, pointer]

/-- The winner of a grant in one class (R62). -/
def State.winnerOf (s : State) (c : Cls) (pointer : Initiator) : Option Initiator :=
  (searchOrder pointer).find? fun i => s.candidate i && (s.profile i).cls == c

/-- The winner of a grant: a HIGH head if one competes, otherwise a NORMAL one (R62). -/
def State.grantWinner (s : State) : Option Initiator :=
  match s.winnerOf .high s.admission.highPointer with
  | some i => some i
  | none => s.winnerOf .normal s.admission.normalPointer

/-- The pointer of the class just served is set to the winner's index (R62). -/
def State.movePointer (s : State) (i : Initiator) : State :=
  match (s.profile i).cls with
  | .high => { s with admission := { s.admission with highPointer := i } }
  | .normal => { s with admission := { s.admission with normalPointer := i } }

/-- The charge at admission: a METERED initiator's remaining budget is lowered by the beats (R64 step 1, R88). -/
def State.charge (s : State) (i : Initiator) (beats : Nat) : State :=
  if (s.profile i).mode = .metered then s.setRemaining i (s.remaining i - beats) else s

/-- The qualifier of an op (R158). -/
def opQualifier : Op → Nat
  | .read => 1
  | .write => 2

/-- The reports of one admission (R64 step 4, R8): ADMIT, BEATS_ADMITTED and, for an entry that waits, DEP_WAIT. -/
def admitReports (i : Initiator) (r : Request) (waits : Bool) : List Report :=
  [{ event := .admitted, initiator := i, qualifier := opQualifier r.op },
   { event := .beatsAdmitted, initiator := i, qualifier := opQualifier r.op, amount := r.beats }] ++
  if waits then [{ event := .depWait, initiator := i }] else []

/-- Admitting the head `r` of initiator `i` into entry `x` through window `w` (R64): charge, allocation, removal with CREDIT 1,
reports. -/
def State.admitHead (s : State) (i : Initiator) (r : Request) (rest : List Request) (w : WindowIdx) (x : EntryIdx) : State :=
  let t := ((s.movePointer i).charge i r.beats).allocate x i r w
  let t := (t.modPort i fun p => { p with queue := rest }).returnCredit i
  t.report (admitReports i r (s.predecessorsOf r w ≠ []))

/-- GRANT: when one or more heads compete, one is admitted; then the next head of that port arrives and every remaining head is
re-checked (R62, R63, R64). With no head competing no grant is made. -/
def State.grant (s : State) : State :=
  match s.grantWinner with
  | none => s
  | some i =>
    match (s.port i).queue with
    | [] => s
    | r :: rest =>
      match s.lookup (lineOf r.address), s.firstFree with
      | some w, some x => ((s.admitHead i r rest w x).headArrives i).recheck
      | _, _ => s

/-! ### Issue (R99, R100) -/

/-- The issue arbiter's winner: the table of R99. -/
def TargetPort.winner (t : TargetPort) : Option (Cls × EntryIdx) :=
  match t.highQueue, t.normalQueue with
  | [], [] => none
  | x :: _, [] => some (.high, x)
  | [], y :: _ => some (.normal, y)
  | x :: _, y :: _ => if t.consecutiveHigh < 4 then some (.high, x) else some (.normal, y)

/-- The conditions on which an issue is made (R99). -/
def TargetPort.canIssue (t : TargetPort) : Bool :=
  (t.state = .online ∨ t.state = .suspect) && 0 < t.credits

/-- The target port after an issue of the class: the head taken, one credit spent, the consecutive-HIGH count changed (R99, R100). -/
def TargetPort.afterIssue (t : TargetPort) (c : Cls) : TargetPort :=
  match c with
  | .high => { t with highQueue := t.highQueue.tail, credits := t.credits - 1, consecutiveHigh := min 4 (t.consecutiveHigh + 1) }
  | .normal => { t with normalQueue := t.normalQueue.tail, credits := t.credits - 1, consecutiveHigh := 0 }

/-- The qualifier of a class (R158: ISSUE has any, HIGH, NORMAL). -/
def Cls.qualifier : Cls → Nat
  | .high => 1
  | .normal => 2

/-- ISSUE: the winning entry becomes ISSUED and releases its write data (R12), and its REQUEST is sent (R36, R100). When the
conditions of R99 do not hold no issue is made. -/
def State.issue (s : State) : State :=
  if s.target.canIssue then
    match s.target.winner with
    | none => s
    | some (c, x) =>
      match s.entry x with
      | none => s
      | some e =>
        let t := { s with target := s.target.afterIssue c }
        let t := t.setEntry x (some { e with phase := .issued, writeData := [] })
        let t := t.sendTarget (.request x e.op e.beats e.targetAddress e.writeData)
        t.report [{ event := .issue, initiator := e.initiator, qualifier := e.cls.qualifier }]
  else s

end Sys2Proof.Machine
end

