-- ==== Sys2Proof/Machine/Target.lean ====
section
/-!
DEFINITION. The target port (chapter 6): responses, credits, the target states and their transitions, and the meanings of the
commands that arrive on the target link or act on the target.
-/

namespace Sys2Proof.Machine

/-! ### Shared operations -/

/-- A fault record with source TARGET and no optional field (R176). -/
def targetFault (k : FaultKind) : FaultReport := { kind := k, source := .target }

/-- Set the credit count to a carried value within the bounds of R37: above 64 it is taken as 64 and TARGET_CREDIT_OVERFLOW is
stored. -/
def State.setCredits (s : State) (n : Nat) : State :=
  let t := { s with target := { s.target with credits := min Config.targetTags n } }
  if Config.targetTags < n then t.logFault (targetFault .targetCreditOverflow) else t

/-- Is the RESPONSE well-formed for the entry's op and beats (R103)? -/
def responseWellFormed (r : Response) (e : Entry) : Bool :=
  r.dataCount == r.data.length && r.dataCount ≤ 8 &&
  match e.op, r.status with
  | .read, .okay => r.data.length == e.beats
  | .write, .okay => r.data.length == 0
  | _, .fail => r.data.length == 0

/-- The answer a completion gives the initiator (R103): OKAY only for a well-formed OKAY. -/
def responseAnswer (r : Response) (e : Entry) : Status :=
  if responseWellFormed r e ∧ r.status = .okay then .okay else .errTarget

/-- The data a completion gives the initiator (R33, R103). -/
def responseData (r : Response) (e : Entry) : List DataBeat :=
  if responseAnswer r e = .okay ∧ e.op = .read then r.data else []

/-- The COMPLETED qualifier of a status (R158): OKAY 1, ERR_TARGET 2. -/
def completedQualifier (st : Status) : Nat := if st = .okay then 1 else 2

/-- A completion (R104): answered, freed, the notices, then COMPLETED with its latency, then BAD_RESPONSE if not well-formed. -/
def State.completion (s : State) (r : Response) (e : Entry) : State :=
  let st := responseAnswer r e
  let t := State.notices s ((s.answer e st (responseData r e)).freeEntry r.tag)
  let t := t.report [{ event := .completed, initiator := e.initiator, qualifier := completedQualifier st }]
    (some (e.initiator, s.timebase.count - e.admissionTick))
  if responseWellFormed r e then t
  else t.logFault { kind := .badResponse, source := .target, tag := e.tag, entry := some r.tag,
                    address := some e.targetAddress }

/-- A late response (R105): the quarantine ends, LATE_RESPONSE is stored and LATE reported. -/
def State.lateResponse (s : State) (x : EntryIdx) (e : Entry) (c : DetachCause) : State :=
  let t := State.notices s (s.freeEntry x)
  let t := t.logFault { kind := .lateResponse, source := .target, entry := some x, address := some e.targetAddress,
                        cause := some c }
  t.report [{ event := .late, initiator := e.initiator }]

/-- A stray response (R106): STRAY_RESPONSE is stored, nothing else changes. -/
def State.strayResponse (s : State) (x : EntryIdx) : State :=
  s.logFault { kind := .strayResponse, source := .target, entry := some x }

/-- A RESPONSE taken by the target port (R102): discarded in RESYNCING, else a response claim (R13, R14). -/
def State.takeResponse (s : State) (r : Response) : State :=
  if s.target.state = .resyncing then s
  else
    match s.entry r.tag with
    | none => s.strayResponse r.tag
    | some e =>
      match e.phase with
      | .issued => s.completion r e
      | .detached c => s.lateResponse r.tag e c
      | .waiting => s.strayResponse r.tag
      | .ready => s.strayResponse r.tag

/-- A CREDIT taken by the target port (R101). -/
def State.takeCredit (s : State) (n : Nat) : State :=
  match s.target.state with
  | .online => s.setCredits (s.target.credits + n)
  | .suspect => s.setCredits (s.target.credits + n)
  | .offline => s
  | .resyncing => s

/-- The end of a resynchronisation, or a restart of the target: credits set, consecutive-HIGH count 0, timer STOPPED, ONLINE,
TARGET_STATE, re-check (R111, R115). -/
def State.bringOnline (s : State) (n : Nat) : State :=
  let t := s.setCredits n
  let t := { t with target := { t.target with consecutiveHigh := 0, resyncTimer := none } }
  (t.changeTarget .online).recheck

/-- The acknowledgement in RESYNCING (R111). -/
def State.acknowledge (s : State) (n : Nat) : State := s.acknowledgeClaim.bringOnline n

/-- RESET_NOTICE in ONLINE or SUSPECT (R115). -/
def State.restarted (s : State) (n : Nat) : State := s.noticeClaim.bringOnline n

/-- RESYNC_ACK taken by the target port (R111): in RESYNCING it is the acknowledgement, in any other state UNEXPECTED_ACK. -/
def State.takeAck (s : State) (n : Nat) : State :=
  match s.target.state with
  | .resyncing => s.acknowledge n
  | .offline => s.logFault (targetFault .unexpectedAck)
  | .online => s.logFault (targetFault .unexpectedAck)
  | .suspect => s.logFault (targetFault .unexpectedAck)

/-- RESET_NOTICE taken by the target port (R115). -/
def State.takeResetNotice (s : State) (n : Nat) : State :=
  match s.target.state with
  | .resyncing => s.acknowledge n
  | .offline => s.logFault (targetFault .unexpectedAck)
  | .online => s.restarted n
  | .suspect => s.restarted n

/-- Entry into OFFLINE (R108). The re-check answers every head, whether or not the claim freed anything. -/
def State.enterOffline (s : State) : State :=
  let t := { s with target := { s.target with state := .offline, resyncTimer := none, credits := 0 } }
  (State.raise t.offlineClaim .targetState).recheck

/-- TARGET_RESYNC outside RESYNCING (R110). -/
def State.startResync (s : State) : State :=
  let t := { s with target := { s.target with state := .resyncing, credits := 0 } }
  let t := t.resyncClaim.sendTarget .resync
  let t := { t with target := { t.target with resyncTimer := some { ticks := t.target.resyncWait } } }
  (t.raise .targetState).recheck

/-- The target port's timer at a tick (R112): a RUNNING timer has 1 tick less, but the tick that would leave it none is the resync wait
expiry, which is due and is taken whole. -/
def TargetPort.countTick (t : TargetPort) : TargetPort :=
  { t with resyncTimer := t.resyncTimer.map fun n =>
      if n.ticks ≤ 1 then { n with expiryDue := true } else { n with ticks := n.ticks - 1 } }

/-- The resync wait expiry is due (R112). -/
def TargetPort.expiryDue (t : TargetPort) : Bool := t.state = .resyncing && t.resyncTimer.any (·.expiryDue)

/-- The resync wait expiry (R112), one event at the target port: the last tick brings the timer to 0, RESYNC_TIMEOUT is stored and the target
enters OFFLINE, which stops the timer. When it is not due nothing happens. -/
def State.resyncWaitExpiry (s : State) : State :=
  if s.target.expiryDue then
    (s.logFault (targetFault .resyncTimeout)).enterOffline
  else s

/-- A write of the detach limit (R114): bounded to 1-64; ONLINE with the limit at or below the detached count becomes SUSPECT. -/
def State.writeDetachLimit (s : State) (v : Word) : State :=
  let t := { s with target := { s.target with detachLimit := max 1 (min 64 v.toNat) } }
  let u := t.suspectIfReached
  if u.target.state ≠ t.target.state then u.recheck else u

/-- A write of the resync wait value: 0 is taken as 1 (R112). A running timer is left as it is. -/
def State.writeResyncWait (s : State) (v : Word) : State :=
  { s with target := { s.target with resyncWait := max 1 v.toNat } }

/-- TARGET_RESYNC as a command (R110). -/
def State.commandResync (s : State) : State :=
  if s.target.state = .resyncing then s.complete Config.codeTargetResync .refusedState
  else s.startResync.complete Config.codeTargetResync .done

/-- TARGET_OFFLINE as a command (R109). -/
def State.commandOffline (s : State) : State :=
  if s.target.state = .offline then s.complete Config.codeTargetOffline .refusedState
  else s.enterOffline.complete Config.codeTargetOffline .done

/-! ### Meanings -/

/-- TARGET_RESPONSE (R102). -/
def execTargetResponse (r : Response) (s : State) : Host.Outcome State Fault Refusal := .next (s.outOfReset fun t => t.takeResponse r)

/-- TARGET_CREDIT (R101). -/
def execTargetCredit (n : Nat) (s : State) : Host.Outcome State Fault Refusal := .next (s.outOfReset fun t => t.takeCredit n)

/-- RESYNC_ACK (R111). -/
def execResyncAck (n : Nat) (s : State) : Host.Outcome State Fault Refusal := .next (s.outOfReset fun t => t.takeAck n)

/-- RESET_NOTICE (R115). -/
def execResetNotice (n : Nat) (s : State) : Host.Outcome State Fault Refusal := .next (s.outOfReset fun t => t.takeResetNotice n)

/-- ISSUE (R99, R100). -/
def execIssue (s : State) : Host.Outcome State Fault Refusal := .next (s.outOfReset State.issue)

/-- TARGET_RESYNC (R110). -/
def execTargetResync (s : State) : Host.Outcome State Fault Refusal := .next (s.outOfReset State.commandResync)

/-- TARGET_OFFLINE (R109). -/
def execTargetOffline (s : State) : Host.Outcome State Fault Refusal := .next (s.outOfReset State.commandOffline)

/-- DETACH_LIMIT_WRITE (R114). -/
def execDetachLimitWrite (v : Word) (s : State) : Host.Outcome State Fault Refusal := .next (s.outOfReset fun t => t.writeDetachLimit v)

/-- RESYNC_WAIT_WRITE (R112). -/
def execResyncWaitWrite (v : Word) (s : State) : Host.Outcome State Fault Refusal := .next (s.outOfReset fun t => t.writeResyncWait v)

end Sys2Proof.Machine
end

