-- ==== Sys2Proof/Machine/InitiatorPort.lean ====
section
/-!
DEFINITION. The initiator ports (chapters 2 and 8): the arrival checks, enabling, draining, fencing and link reset, with their
meanings; and GRANT, which removes the heads of their queues.
-/

namespace Sys2Proof.Machine

/-! ### Arrival checks (2.6) -/

/-- A tag is bound to the request of an initiator when a live entry of that initiator carries it, or a queued request does (R42). -/
def State.duplicateTag (s : State) (i : Initiator) (t : Tag) : Bool :=
  (entryIndices.any fun x => (s.entry x).any fun e => e.initiator == i && e.phase.live && e.tag == some t) ||
  (s.port i).queue.any fun q => q.tag == t

/-- A REQUEST is malformed (R43): misaligned, of 0 or more than 8 beats, across a line, or with the wrong beat records. -/
def requestMalformed (r : Request) : Bool :=
  r.address.toNat % 8 != 0 || r.beats == 0 || decide (8 < r.beats) || decide (64 < r.address.toNat % 64 + 8 * r.beats) ||
  match r.op with
  | .write => r.data.length != r.beats
  | .read => r.data.length != 0

/-- A fault record of an initiator port that names the REQUEST (R44, R176). -/
def requestFault (k : FaultKind) (i : Initiator) (r : Request) : FaultReport :=
  { kind := k, source := .initiator i, tag := some r.tag, address := some r.address }

/-- A REQUEST answered ERR_REFUSED and reported as REFUSED with status REFUSED (R44). -/
def State.refuse (s : State) (i : Initiator) (r : Request) : State :=
  (s.send i (.response r.tag .errRefused [])).report [{ event := .refused, initiator := i, qualifier := 4 }]

/-- A REQUEST answered ERR_REFUSED, its credit returned after the answer, and reported as REFUSED (R39, R44). -/
def State.refuseWithCredit (s : State) (i : Initiator) (r : Request) : State :=
  ((s.send i (.response r.tag .errRefused [])).returnCredit i).report [{ event := .refused, initiator := i, qualifier := 4 }]

/-- A request joins the tail of the ingress queue (R41 step 8); it arrives as head when the queue was empty (R53). -/
def State.appendRequest (s : State) (i : Initiator) (r : Request) : State :=
  let t := s.modPort i fun p => { p with queue := p.queue ++ [r] }
  if (s.port i).queue = [] then t.headArrives i else t

/-- Steps 5 to 8 of the arrival checks, the credit already taken (R41). -/
def State.checkArrival (s : State) (i : Initiator) (r : Request) : State :=
  if s.duplicateTag i r.tag then (s.returnCredit i).logFault (requestFault .dupTag i r)
  else if requestMalformed r then (s.refuseWithCredit i r).logFault (requestFault .malformed i r)
  else if (s.port i).state = .draining then s.refuseWithCredit i r
  else s.appendRequest i r

/-- The arrival checks of R41. -/
def State.arrive (s : State) (i : Initiator) (r : Request) : State :=
  match (s.port i).state with
  | .disabled => s.logFault (requestFault .creditOverrun i r)
  | .fenced => s.refuse i r
  | _ =>
    if (s.port i).granted = 0 then s.logFault (requestFault .creditOverrun i r)
    else (s.modPort i fun p => { p with granted := p.granted - 1 }).checkArrival i r

/-! ### Closing a port -/

/-- The port empties its queue, revokes nothing itself, and its head status becomes NONE (R53). -/
def State.closePort (s : State) (i : Initiator) (st : PortState) : State :=
  (s.modPort i fun p => { p with state := st, granted := 0, queue := [] }).setHead i .noHead

/-- The completion of a drain (R142). -/
def State.completeDrain (s : State) (i : Initiator) : State :=
  (((s.send i .revoke).modPort i fun p => { p with state := .fenced, granted := 0 })).raise (.drainDone i)

/-- The outstanding-zero notice taken by port `i`: it acts only while DRAINING (R5, R142). The notice is due once outstanding(i) is 0, and
an event of the port that the manual does not place behind it may come before it (log entry 4). -/
def State.takeZeroNotice (s : State) (i : Initiator) : State :=
  if (s.port i).state = .draining ∧ s.outstanding i = 0 then s.completeDrain i else s

/-- Every queued request is answered ERR_REFUSED, from head to tail, its credit returned after it (R140 step 1). -/
def State.refuseQueueWithCredit (s : State) (i : Initiator) : State :=
  (s.port i).queue.foldl (fun t r => t.refuseWithCredit i r) (s.modPort i fun p => { p with queue := [] })

/-- Every queued request is answered ERR_REFUSED, from head to tail, with no credit returned (R144 step 1). -/
def State.refuseQueue (s : State) (i : Initiator) : State :=
  (s.port i).queue.foldl (fun t r => t.refuse i r) (s.modPort i fun p => { p with queue := [] })

/-- PORT_ENABLE p at its port (R138). -/
def State.enablePort (s : State) (i : Initiator) : State × CommandStatus :=
  match (s.port i).state with
  | .disabled => ((s.send i (.credit 8)).modPort i fun p => { p with state := .active, granted := 8 }, .done)
  | .fenced => ((s.send i (.credit 8)).modPort i fun p => { p with state := .active, granted := 8 }, .done)
  | .active => (s, .refusedState)
  | .draining => (s, .refusedState)

/-- PORT_DRAIN p at its port (R140): the queue is refused with credits, the port becomes DRAINING, and completes at once when nothing is
outstanding. -/
def State.drainPort (s : State) (i : Initiator) : State × CommandStatus :=
  match (s.port i).state with
  | .active =>
    let t := (s.refuseQueueWithCredit i).modPort i fun p => { p with state := .draining }
    ((t.setHead i .noHead).takeZeroNotice i, .done)
  | .disabled => (s, .refusedState)
  | .draining => (s, .refusedState)
  | .fenced => (s, .refusedState)

/-- A fence taken in ACTIVE or DRAINING (R144): the queue's answers, the claim's answers, REVOKE, FENCED; then the claim's
notices. -/
def State.fence (s : State) (i : Initiator) : State :=
  let t := ((s.refuseQueue i).setHead i .noHead).fenceClaim i
  State.notices s ((t.send i .revoke).closePort i .fenced)

/-- PORT_FENCE p at its port (R144). A claim that ended the port's drain has its notice taken first (R145). -/
def State.fencePort (s : State) (i : Initiator) : State × CommandStatus :=
  let t := s.takeZeroNotice i
  match (t.port i).state with
  | .active => (t.fence i, .done)
  | .draining => (t.fence i, .done)
  | .disabled => (t, .refusedState)
  | .fenced => (t, .refusedState)

/-- A fault record of a link reset (R147, R149): source IPi and no optional field. -/
def linkResetFault (i : Initiator) : FaultReport := { kind := .linkReset, source := .initiator i }

/-- A LINK_RESET taken in ACTIVE, DRAINING or FENCED (R147). -/
def State.resetPort (s : State) (i : Initiator) : State :=
  let t := ((s.modPort i fun p => { p with queue := [] }).setHead i .noHead).linkResetClaim i
  let t := ((t.closePort i .fenced).raise (.portReset i)).logFault (linkResetFault i)
  State.notices s t

/-- A LINK_RESET from initiator `i` (R147, R149). A claim that ended the port's drain has its notice taken first (R148). -/
def State.linkReset (s : State) (i : Initiator) : State :=
  let t := s.takeZeroNotice i
  match (t.port i).state with
  | .disabled => t.logFault (linkResetFault i)
  | .active => t.resetPort i
  | .draining => t.resetPort i
  | .fenced => t.resetPort i

/-- PORT_ENABLE as a command (R138, R150). -/
def State.commandPortEnable (s : State) : State := s.withArgument 4 Config.codePortEnable fun p t => t.enablePort p

/-- PORT_DRAIN as a command (R140, R150). -/
def State.commandPortDrain (s : State) : State := s.withArgument 4 Config.codePortDrain fun p t => t.drainPort p

/-- PORT_FENCE as a command (R144, R150). -/
def State.commandPortFence (s : State) : State := s.withArgument 4 Config.codePortFence fun p t => t.fencePort p

/-! ### Meanings -/

/-- A message of a kind not defined for its direction (R31): discarded whatever its content, and recorded. -/
def State.takeUndefined (s : State) (l : Link) : State :=
  match l with
  | .initiator i => s.logFault { kind := .malformed, source := .initiator i }
  | .target => s.logFault (targetFault .badResponse)

/-- REQUEST (R41). -/
def execRequest (i : Initiator) (r : Request) (s : State) : Host.Outcome State Fault Refusal := .next (s.outOfReset fun t => t.arrive i r)

/-- LINK_RESET (R147, R149). -/
def execLinkReset (i : Initiator) (s : State) : Host.Outcome State Fault Refusal := .next (s.outOfReset fun t => t.linkReset i)

/-- UNDEFINED_KIND_MESSAGE (R31). -/
def execUndefinedKindMessage (l : Link) (_kind : Nat) (s : State) : Host.Outcome State Fault Refusal :=
  .next (s.outOfReset fun t => t.takeUndefined l)

/-- GRANT (R62, R63, R64). -/
def execGrant (s : State) : Host.Outcome State Fault Refusal := .next (s.outOfReset State.grant)

/-- DRAIN_COMPLETION of port `p` (R142). -/
def execDrainCompletion (p : Initiator) (s : State) : Host.Outcome State Fault Refusal := .next (s.outOfReset fun t => t.takeZeroNotice p)

/-- PORT_ENABLE (R138). -/
def execPortEnable (s : State) : Host.Outcome State Fault Refusal := .next (s.outOfReset State.commandPortEnable)

/-- PORT_DRAIN (R140). -/
def execPortDrain (s : State) : Host.Outcome State Fault Refusal := .next (s.outOfReset State.commandPortDrain)

/-- PORT_FENCE (R144). -/
def execPortFence (s : State) : Host.Outcome State Fault Refusal := .next (s.outOfReset State.commandPortFence)

end Sys2Proof.Machine
end

