-- ==== Sys2Proof/Machine/Timebase.lean ====
section
/-!
DEFINITION. The timebase and the deadline monitor (chapter 7) and the regulation unit (chapter 5): ticks, expiries, period
expiries, the moment at which the monitor takes a tick, and the registers that set them.
-/

namespace Sys2Proof.Machine

/-! ### Expiry (R127-R130) -/

/-- The state at expiry that a TIMEOUT record shows (R175). -/
def Phase.expiryState : Phase → Option ExpiryState
  | .waiting => some .waiting
  | .ready => some .ready
  | .issued => some .issued
  | .detached _ => none

/-- The TIMED_OUT qualifier (R130): 1 unissued for WAITING or READY, 2 issued. -/
def Phase.timeoutQualifier (p : Phase) : Nat := if p = .issued then 2 else 1

/-- The TIMEOUT record of an expired entry (R130). -/
def timeoutFault (x : Settled) : FaultReport :=
  { kind := .timeout, source := .initiator x.entry.initiator, tag := x.entry.tag, entry := some x.index
    address := some x.entry.requestAddress, expiryState := x.entry.phase.expiryState }

/-- The two reports the deadline monitor hands for an expired entry (R130). -/
def State.reportTimeout (s : State) (x : Settled) : State :=
  (s.logFault (timeoutFault x)).report
    [{ event := .timedOut, initiator := x.entry.initiator, qualifier := x.entry.phase.timeoutQualifier }]

/-- The deadline monitor's event at a tick (R127): the entries whose expiry tick equals the count are named in one claim; then its
notices, then the reports in ascending entry index (R130). With none named, nothing happens. -/
def State.expire (s : State) : State :=
  s.expiryClaim.2.foldl State.reportTimeout (State.notices s s.expiryClaim.1)

/-! ### Period expiry (R86, R87) -/

/-- The period timer at a tick (R86): a RUNNING timer has 1 tick more, but the tick that would bring it to the period is the expiry,
which is due and is taken whole. -/
def Regulation.countTick (g : Regulation) : Regulation :=
  { g with timer := g.timer.map fun n =>
      if g.period ≤ n.ticks + 1 then { n with expiryDue := true } else { n with ticks := n.ticks + 1 } }

/-- The period expiry is due (R86). -/
def Regulation.expiryDue (g : Regulation) : Bool := g.timer.any (·.expiryDue)

/-- The remaining budget after an expiry (R84, R87). -/
def refilled (p : Profile) (remaining : Nat) : Nat :=
  if p.mode = .metered then p.budget + min remaining p.carryLimit else remaining

/-- PERIOD_EXPIRY (R86, R87), one event at the regulation unit: the tick brings the elapsed count to the period, and it returns to 0 and
every METERED initiator is refilled, which starts a re-check when there is one. When it is not due nothing happens. -/
def State.periodExpiry (s : State) : State :=
  if s.regulation.expiryDue then
    let next : Initiator → Nat := fun i => refilled (s.profile i) (s.remaining i)
    let t := { s with regulation := { s.regulation with timer := some { ticks := 0 }, remaining := Vector.ofFn next } }
    if initiators.any fun i => (s.profile i).mode = .metered then t.recheck else t
  else s

/-- A write of the period register (R85). -/
def State.writePeriod (s : State) (v : Word) : State :=
  { s with regulation := { s.regulation with period := v.toNat, timer := if v.toNat = 0 then none else some { ticks := 0 } } }

/-! ### The monitor's tick (R159) -/

/-- A live entry's expiry tick is the count: the deadline monitor has a claim to send (R127). -/
def State.expiryDue (s : State) : Bool :=
  entryIndices.any fun x => (s.entry x).any fun e => e.phase.live && e.expiryTick == some s.timebase.count

/-- An expiry that the last tick started is still to be taken. -/
def State.anyDue (s : State) : Bool := s.expiryDue || s.regulation.expiryDue || s.target.expiryDue

/-- The monitor takes the tick it owes: every counter takes its sample of the state as it stands (R159, R161). -/
def State.takeSample (s : State) : State := State.sampleAll { s with sampleOwed := false }

/-- A moment at which the monitor may take the tick it owes. While an expiry of the tick is still due the two may come in either
order (R159), and which is free (`Config.sampleWaits`, log entry 3); once none is due the sample is taken. -/
def State.offerSample (s : State) : State :=
  if s.sampleOwed then
    if s.anyDue then
      let t := { s with choices := s.choices + 1 }
      if Config.sampleWaits s.choices then t else t.takeSample
    else s.takeSample
  else s

/-- EXPIRY_CLAIM with the sample that may follow it. -/
def State.takeExpiry (s : State) : State := s.expire.offerSample

/-- PERIOD_EXPIRY with the sample that may follow it. -/
def State.takePeriodExpiry (s : State) : State := s.periodExpiry.offerSample

/-- RESYNC_WAIT_EXPIRY with the sample that may follow it. -/
def State.takeResyncWaitExpiry (s : State) : State := s.resyncWaitExpiry.offerSample

/-! ### Ticks (R121, R122, R123) -/

/-- What earlier ticks started and nothing has taken yet comes before the next tick (log entry 3). -/
def State.settleDue (s : State) : State := s.takeExpiry.takePeriodExpiry.takeResyncWaitExpiry

/-- The tick itself: the count plus 1, the division begun again, and its delivery to the period timer (R86) and the resync wait timer
(R112), whose expiries are events of their own, and to the monitor (R159), which takes its sample now or after expiries of this tick. -/
def State.countTick (s : State) : State :=
  let t := { s with
    timebase := { s.timebase with count := s.timebase.count + 1, progress := 0 }
    regulation := s.regulation.countTick
    target := s.target.countTick
    sampleOwed := true }
  t.offerSample

/-- TICK (R121). -/
def State.tick (s : State) : State := s.settleDue.countTick

/-- One REFCLK period with RST_N high (R121): the division progresses, and when prescaler periods have been counted a tick occurs. -/
def State.countRefclk (s : State) : State :=
  if s.timebase.progress + 1 < s.timebase.prescaler then
    { s with timebase := { s.timebase with progress := s.timebase.progress + 1 } }
  else s.tick

/-- One REFCLK period; while RST_N is low the timebase does not count (R121, R195). -/
def State.refclk (s : State) : State := s.outOfReset State.countRefclk

/-- A write of the prescaler register (R122): bounded to 1-256, the tick in progress abandoned. -/
def State.writePrescaler (s : State) (v : Word) : State :=
  { s with timebase := { s.timebase with prescaler := max 1 (min 256 v.toNat), progress := 0 } }

/-- Put a word on the data bus, as a read does (R186). -/
def State.drive (s : State) (v : Word) : State := { s with management := { s.management with busData := some v } }

/-- A read of the tick count's low word latches its high word (R123). -/
def State.readTickLow (s : State) : State :=
  State.drive { s with timebase := { s.timebase with highHolding := highWord s.timebase.count } } (lowWord s.timebase.count)

/-- BUDGET_RELOAD i (R90). -/
def State.reloadBudget (s : State) (i : Initiator) : State := (s.setRemaining i (s.profile i).budget).recheck

/-- BUDGET_RELOAD as a command (R90). -/
def State.commandBudgetReload (s : State) : State :=
  s.withArgument 4 Config.codeBudgetReload fun i t => (t.reloadBudget i, .done)

/-! ### Meanings -/

/-- TICK (R121). -/
def execTick (s : State) : Host.Outcome State Fault Refusal := .next (s.outOfReset State.tick)

/-- EXPIRY_CLAIM (R127). -/
def execExpiryClaim (s : State) : Host.Outcome State Fault Refusal := .next (s.outOfReset State.takeExpiry)

/-- PERIOD_EXPIRY (R87). -/
def execPeriodExpiry (s : State) : Host.Outcome State Fault Refusal := .next (s.outOfReset State.takePeriodExpiry)

/-- RESYNC_WAIT_EXPIRY (R112). -/
def execResyncWaitExpiry (s : State) : Host.Outcome State Fault Refusal := .next (s.outOfReset State.takeResyncWaitExpiry)

/-- PRESCALER_WRITE (R122). -/
def execPrescalerWrite (v : Word) (s : State) : Host.Outcome State Fault Refusal := .next (s.outOfReset fun t => t.writePrescaler v)

/-- REGULATION_PERIOD_WRITE (R85). -/
def execRegulationPeriodWrite (v : Word) (s : State) : Host.Outcome State Fault Refusal := .next (s.outOfReset fun t => t.writePeriod v)

/-- TICK_COUNT_LOW_READ (R123). -/
def execTickCountLowRead (s : State) : Host.Outcome State Fault Refusal := .next (s.outOfReset State.readTickLow)

/-- BUDGET_RELOAD (R90). -/
def execBudgetReload (s : State) : Host.Outcome State Fault Refusal := .next (s.outOfReset State.commandBudgetReload)

end Sys2Proof.Machine
end

