-- ==== Sys2Proof/Machine/Commands.lean ====
section
/-!
DEFINITION. The remaining commands of the command register (R190): windows, profiles, edges, histograms, the monitor bank, the
snapshot, the fault log, traffic reset and the unassigned codes; and device reset.
-/

namespace Sys2Proof.Machine

/-! ### Windows and profiles -/

/-- WRITE_WINDOW w (R71, R72): the staged record replaces record `w` and a re-check starts, or a staged field refuses it. -/
def State.commitWindow (s : State) (w : WindowIdx) : State × CommandStatus :=
  match s.stagedWindow with
  | some v => (State.recheck { s with windows := s.windows.set w v }, .done)
  | none => (s.raise .configError, .invalid)

/-- WRITE_WINDOW as a command (R71). -/
def State.commandWriteWindow (s : State) : State := s.withArgument 8 Config.codeWriteWindow fun w t => t.commitWindow w

/-- READ_WINDOW as a command (R73). -/
def State.commandReadWindow (s : State) : State :=
  s.withArgument 8 Config.codeReadWindow fun w t => (t.setStaging t.windows[w].image, .done)

/-- WRITE_PROFILE i (R50): the staged fields replace profile `i` and a re-check starts, or a staged field refuses it. -/
def State.commitProfile (s : State) (i : Initiator) : State × CommandStatus :=
  match s.stagedProfile with
  | some p =>
    (State.recheck { s with admission := { s.admission with profiles := s.admission.profiles.set i p } }, .done)
  | none => (s.raise .configError, .invalid)

/-- WRITE_PROFILE as a command (R50). -/
def State.commandWriteProfile (s : State) : State := s.withArgument 4 Config.codeWriteProfile fun i t => t.commitProfile i

/-- READ_PROFILE as a command (R52). -/
def State.commandReadProfile (s : State) : State :=
  s.withArgument 4 Config.codeReadProfile fun i t => (t.setStaging ((t.profile i).image (t.remaining i)), .done)

/-! ### Monitor commands -/

/-- WRITE_EDGES as a command (R168). -/
def State.commandWriteEdges (s : State) : State :=
  match s.stagedEdges with
  | some e => State.complete { s with monitor := { s.monitor with edges := e } } Config.codeWriteEdges .done
  | none => (s.raise .configError).complete Config.codeWriteEdges .invalid

/-- HIST_CLEAR as a command (R170). -/
def State.commandHistClear (s : State) : State :=
  s.withArgument 4 Config.codeHistClear fun i t => (t.clearBins i, .done)

/-- COUNTER_FREEZE as a command (R165). -/
def State.commandFreeze (s : State) : State := (s.setBank .frozen).complete Config.codeCounterFreeze .done

/-- COUNTER_UNFREEZE as a command (R165). -/
def State.commandUnfreeze (s : State) : State := (s.setBank .running).complete Config.codeCounterUnfreeze .done

/-- COUNTER_CLEAR as a command (R165). -/
def State.commandClear (s : State) : State := s.clearCounters.complete Config.codeCounterClear .done

/-! ### Snapshot and fault log -/

/-- TRACKER_SNAPSHOT as a command (R25). -/
def State.commandSnapshot (s : State) : State :=
  s.withArgument 64 Config.codeTrackerSnapshot fun x t =>
    ({ t with management := { t.management with snapshot := snapshotOf (t.entry x) } }, .done)

/-- FAULT_POP as a command (R179). -/
def State.commandFaultPop (s : State) : State :=
  match s.faultLog with
  | [] => s.complete Config.codeFaultPop .refusedState
  | _ :: rest => State.complete { s with faultLog := rest } Config.codeFaultPop .done

/-! ### Resets -/

/-- Port `i` at traffic reset (R154): LINK_RESET if it was not DISABLED, then DISABLED and empty. -/
def State.resetPortTraffic (s : State) (i : Initiator) : State :=
  let t := if (s.port i).state = .disabled then s else s.send i .linkReset
  t.modPort i fun _ => .reset

/-- The tracker, admission controller and regulation unit at traffic reset (R28, R68, R96). -/
def State.clearTraffic (s : State) : State :=
  let budgets : Initiator → Nat := fun i => (s.profile i).budget
  { s with
    tracker := Vector.replicate 64 none
    admission := { s.admission with heads := Vector.replicate 4 .noHead, highPointer := 3, normalPointer := 3 }
    regulation := { s.regulation with
      remaining := Vector.ofFn budgets, timer := if s.regulation.period = 0 then none else some { ticks := 0 } } }

/-- The target port at traffic reset (R120). -/
def State.resetTarget (s : State) : State :=
  let t := { s with target := { s.target with
    state := .offline, credits := 0, highQueue := [], normalQueue := [], consecutiveHigh := 0, resyncTimer := none } }
  let t := t.sendTarget .linkReset
  if s.target.state = .offline then t else t.raise .targetState

/-- The traffic reset (R193). A drain in progress is abandoned, its notice taken or not (R154). -/
def State.trafficReset (s : State) : State := (initiators.foldl State.resetPortTraffic s).clearTraffic.resetTarget

/-- TRAFFIC_RESET as a command (R193). -/
def State.commandTrafficReset (s : State) : State := s.trafficReset.complete Config.codeTrafficReset .done

/-- RST_N changes its level (R195, log entry 12): high, it goes low; low, it goes high. While it is low, and when it goes high again, every
block holds its reset values. What the part has already sent, the free orders taken and the waiting commands are the model's own and stay. -/
def State.deviceReset (s : State) : State :=
  { State.reset with rstN := !s.rstN, links := s.links, choices := s.choices, pending := s.pending }

/-! ### The command register (R190) -/

/-- An unassigned code changes no block: status UNKNOWN, COMMAND_REFUSED (R190). -/
def State.commandUnassigned (s : State) (code : Word) : State := s.complete code .unknown

/-- A write of a code to the command register (R190). -/
def State.writeCommand (s : State) (code : Word) : State :=
  if code = Config.codePortEnable then s.commandPortEnable
  else if code = Config.codePortDrain then s.commandPortDrain
  else if code = Config.codePortFence then s.commandPortFence
  else if code = Config.codeTargetResync then s.commandResync
  else if code = Config.codeTargetOffline then s.commandOffline
  else if code = Config.codeWriteWindow then s.commandWriteWindow
  else if code = Config.codeReadWindow then s.commandReadWindow
  else if code = Config.codeWriteProfile then s.commandWriteProfile
  else if code = Config.codeReadProfile then s.commandReadProfile
  else if code = Config.codeWriteEdges then s.commandWriteEdges
  else if code = Config.codeBudgetReload then s.commandBudgetReload
  else if code = Config.codeHistClear then s.commandHistClear
  else if code = Config.codeCounterFreeze then s.commandFreeze
  else if code = Config.codeCounterUnfreeze then s.commandUnfreeze
  else if code = Config.codeCounterClear then s.commandClear
  else if code = Config.codeTrackerSnapshot then s.commandSnapshot
  else if code = Config.codeFaultPop then s.commandFaultPop
  else if code = Config.codeTrafficReset then s.commandTrafficReset
  else s.commandUnassigned code

/-! ### Meanings -/

/-- DEVICE_RESET (R195). -/
def execDeviceReset (s : State) : Host.Outcome State Fault Refusal := .next s.deviceReset

/-- WRITE_WINDOW (R71, R72). -/
def execWriteWindow (s : State) : Host.Outcome State Fault Refusal := .next (s.outOfReset State.commandWriteWindow)

/-- READ_WINDOW (R73). -/
def execReadWindow (s : State) : Host.Outcome State Fault Refusal := .next (s.outOfReset State.commandReadWindow)

/-- WRITE_PROFILE (R50). -/
def execWriteProfile (s : State) : Host.Outcome State Fault Refusal := .next (s.outOfReset State.commandWriteProfile)

/-- READ_PROFILE (R52). -/
def execReadProfile (s : State) : Host.Outcome State Fault Refusal := .next (s.outOfReset State.commandReadProfile)

/-- WRITE_EDGES (R168). -/
def execWriteEdges (s : State) : Host.Outcome State Fault Refusal := .next (s.outOfReset State.commandWriteEdges)

/-- HIST_CLEAR (R170). -/
def execHistClear (s : State) : Host.Outcome State Fault Refusal := .next (s.outOfReset State.commandHistClear)

/-- COUNTER_FREEZE (R165). -/
def execCounterFreeze (s : State) : Host.Outcome State Fault Refusal := .next (s.outOfReset State.commandFreeze)

/-- COUNTER_UNFREEZE (R165). -/
def execCounterUnfreeze (s : State) : Host.Outcome State Fault Refusal := .next (s.outOfReset State.commandUnfreeze)

/-- COUNTER_CLEAR (R165). -/
def execCounterClear (s : State) : Host.Outcome State Fault Refusal := .next (s.outOfReset State.commandClear)

/-- TRACKER_SNAPSHOT (R25). -/
def execTrackerSnapshot (s : State) : Host.Outcome State Fault Refusal := .next (s.outOfReset State.commandSnapshot)

/-- FAULT_POP (R179). -/
def execFaultPop (s : State) : Host.Outcome State Fault Refusal := .next (s.outOfReset State.commandFaultPop)

/-- TRAFFIC_RESET (R193). -/
def execTrafficReset (s : State) : Host.Outcome State Fault Refusal := .next (s.outOfReset State.commandTrafficReset)

/-- UNASSIGNED_COMMAND (R190): a write of the code to the command register. -/
def execUnassignedCommand (code : Word) (s : State) : Host.Outcome State Fault Refusal := .next (s.outOfReset fun t => t.writeCommand code)

end Sys2Proof.Machine
end

