-- ==== Sys2Proof/Machine/Registers.lean ====
section
/-!
DEFINITION. The register window (11.1, 11.2): the word every address reads, what a write to every address does, and the
meanings of the register accesses.
-/

namespace Sys2Proof.Machine

/-! ### Codes of the map (11.2) -/

/-- The code of an entry state, FREE being none (11.2). -/
def phaseCode : Option Phase → Nat
  | none => 0
  | some .waiting => 1
  | some .ready => 2
  | some .issued => 3
  | some (.detached _) => 4

/-- The code of a port state (11.2). -/
def PortState.code : PortState → Nat
  | .disabled => 0
  | .active => 1
  | .draining => 2
  | .fenced => 3

/-- The code of a target state (11.2). -/
def TargetState.code : TargetState → Nat
  | .offline => 0
  | .resyncing => 1
  | .online => 2
  | .suspect => 3

/-- The code of a wait reason (11.2). -/
def WaitReason.code : WaitReason → Nat
  | .target => 0
  | .halt => 1
  | .budget => 2
  | .quota => 3

/-- The code of a detach cause (11.2). -/
def DetachCause.code : DetachCause → Nat
  | .timeout => 0
  | .fence => 1
  | .linkReset => 2
  | .offline => 3
  | .resync => 4

/-- The code of a state at expiry (11.2). -/
def ExpiryState.code : ExpiryState → Nat
  | .waiting => 0
  | .ready => 1
  | .issued => 2

/-- The code of a fault kind: 1-11 in the order of R175 (11.2). -/
def FaultKind.code : FaultKind → Nat
  | .creditOverrun => 1
  | .dupTag => 2
  | .malformed => 3
  | .linkReset => 4
  | .strayResponse => 5
  | .lateResponse => 6
  | .badResponse => 7
  | .timeout => 8
  | .targetCreditOverflow => 9
  | .resyncTimeout => 10
  | .unexpectedAck => 11

/-- The code of a fault source; DEVICE is 5, the source of an empty log (R180, 11.2). -/
def FaultSource.code : FaultSource → Nat
  | .initiator i => i
  | .target => 4

/-- The code of a command status (register 0x16). -/
def CommandStatus.code : CommandStatus → Nat
  | .done => 0
  | .refusedState => 1
  | .invalid => 2
  | .unknown => 3

/-- The code of an op (register 0x20, R30). -/
def opCode : Op → Nat
  | .read => 0
  | .write => 1

/-- The detach cause of a phase, if it has one (R1). -/
def Phase.cause? : Phase → Option DetachCause
  | .detached c => some c
  | _ => none

/-! ### Words of the map -/

/-- A word from its fields, each a value at a bit place. -/
def pack (fields : List (Nat × Nat)) : Word := BitVec.ofNat 16 ((fields.map fun f => f.1 * 2 ^ f.2).sum)

/-- A presence bit (R25, R180). -/
def present {α : Type} (o : Option α) : Nat := o.isSome.toNat

/-- Slot `k` of a list image; a slot beyond the count reads 0 (R26). -/
def ListImage.slot (l : ListImage) (k : Nat) : Nat :=
  match l.slots[k]? with
  | some x => x
  | none => 0

/-- The count word of a dependency list (0x2B, 0x30). -/
def ListImage.countWord (l : ListImage) : Word := pack [(l.count, 0), (l.overflow.toNat, 15)]

/-- The slot word `k` of a dependency list: two indices, the lower slot first (0x2C-0x2F, 0x31-0x34). -/
def ListImage.slotWord (l : ListImage) (k : Nat) : Word := pack [(l.slot (2 * k), 0), (l.slot (2 * k + 1), 8)]

/-- The inspection registers, `k` counted from 0x20 (R25). -/
def Snapshot.word (p : Snapshot) (k : Nat) : Word :=
  match k with
  | 0 => pack [(phaseCode p.phase, 0), (p.initiator, 4), (opCode p.op, 6), (p.cls.code, 7)]
  | 1 => pack [(present p.tag, 0), (present p.expiryTick, 1), (present (p.phase.bind Phase.cause?), 2), (p.writeDataHeld.toNat, 3)]
  | 2 => pack [((p.tag.getD 0 : Tag), 0), (p.beats, 4), (p.window, 8), (((p.phase.bind Phase.cause?).map DetachCause.code).getD 0, 12)]
  | 3 => lowWord p.requestAddress
  | 4 => highWord p.requestAddress
  | 5 => lowWord p.targetAddress
  | 6 => highWord p.targetAddress
  | 7 => lowWord p.admissionTick
  | 8 => highWord p.admissionTick
  | 9 => lowWord (p.expiryTick.getD 0)
  | 10 => highWord (p.expiryTick.getD 0)
  | 11 => p.predecessors.countWord
  | 12 => p.predecessors.slotWord 0
  | 13 => p.predecessors.slotWord 1
  | 14 => p.predecessors.slotWord 2
  | 15 => p.predecessors.slotWord 3
  | 16 => p.successors.countWord
  | 17 => p.successors.slotWord 0
  | 18 => p.successors.slotWord 1
  | 19 => p.successors.slotWord 2
  | 20 => p.successors.slotWord 3
  | _ => 0

/-- The fault-head registers, `k` counted from 0x40 (R180). -/
def faultWord (log : List FaultRecord) (k : Nat) : Word :=
  match log.head? with
  | none => if k = 1 then pack [(5, 8)] else 0
  | some f =>
    match k with
    | 0 => pack [(log.length, 0), (1, 15)]
    | 1 => pack [(f.report.kind.code, 0), (f.report.source.code, 8)]
    | 2 => pack [(present f.report.tag, 0), (present f.report.entry, 1), (present f.report.address, 2), (present f.report.cause, 3),
                 (present f.report.expiryState, 4)]
    | 3 => pack [((f.report.tag.getD 0 : Tag), 0), ((f.report.entry.getD 0 : EntryIdx), 8)]
    | 4 => lowWord (f.report.address.getD 0)
    | 5 => highWord (f.report.address.getD 0)
    | 6 => pack [((f.report.cause.map DetachCause.code).getD 0, 0), ((f.report.expiryState.map ExpiryState.code).getD 0, 8)]
    | 7 => lowWord f.tick
    | 8 => highWord f.tick
    | _ => 0

/-- The code of a head status: 0 NONE, 1 ELIGIBLE, 2 WAITING (register 0x51). -/
def HeadStatus.code : HeadStatus → Nat
  | .noHead => 0
  | .eligible => 1
  | .waiting _ => 2

/-- The wait reason shown for a head status (register 0x51). DESIGN CHOICE (log entry 18): the manual gives no value for a head that is
not WAITING; the model shows 0, which is also the code of TARGET. -/
def HeadStatus.reasonCode : HeadStatus → Nat
  | .waiting r => r.code
  | _ => 0

/-- The port status registers of initiator `i`, `k` counted from 0x50 + 4i (R152). The head tag of an empty queue reads 0 (DEDUCED from the
absent count or index of the map, log entry 18). -/
def State.portWord (s : State) (i : Initiator) (k : Nat) : Word :=
  match k with
  | 0 => pack [((s.port i).state.code, 0), ((s.port i).granted, 8)]
  | 1 => pack [((s.port i).queue.length, 0), ((((s.port i).queue.head?.map Request.tag).getD 0 : Tag), 4), ((s.head i).code, 8),
               ((s.head i).reasonCode, 12)]
  | 2 => pack [(s.outstanding i, 0)]
  | 3 => pack [(s.inUse i, 0)]
  | _ => 0

/-- The length and head of an issue queue (registers 0x61 and 0x62). -/
def queueWord (q : List EntryIdx) : Word := pack [(q.length, 0), ((q.head?.getD 0 : EntryIdx), 8)]

/-- The target status registers, `k` counted from 0x60 (R119). -/
def State.targetWord (s : State) (k : Nat) : Word :=
  match k with
  | 0 => pack [(s.target.state.code, 0), (s.target.credits, 8)]
  | 1 => queueWord s.target.highQueue
  | 2 => queueWord s.target.normalQueue
  | 3 => pack [(s.target.consecutiveHigh, 0), (s.detachedCount, 8)]
  | 4 => pack [((s.target.resyncTimer.map RunningTimer.ticks).getD 0, 0)]
  | _ => 0

/-- The word of a counter's control A (11.2). -/
def Control.wordA (c : Control) : Word :=
  pack [(c.enable.toNat, 0), (c.event.toNat, 1), (c.mode.toNat, 5), (c.qualifier.toNat, 8)]

/-- The word of a counter's control B (11.2). -/
def Control.wordB (c : Control) : Word :=
  pack [(c.mask.toNat, 0), (c.overflowInterrupt.toNat, 4), (c.freezeOnOverflow.toNat, 5), (c.threshold.toNat, 8)]

/-- The registers of a counter, `k` counted from 0x80 + 4c. The high word reads the read holding value (R166). -/
def Counter.word (c : Counter) (k : Nat) : Word :=
  match k with
  | 0 => lowWord c.value
  | 1 => c.readHolding
  | 2 => c.control.wordA
  | 3 => c.control.wordB
  | _ => 0

/-- The counter overflow flags (register 0x98). -/
def State.overflowWord (s : State) : Word :=
  pack ((List.finRange 6).map fun c => ((s.counter c).overflow.toNat, c.val))

/-- The code of the bank state (register 0x99). -/
def BankState.code : BankState → Nat
  | .running => 0
  | .frozen => 1

/-- The word the port drives for a read of each address (R186, R187 and the map of 11.2). An address not in the map reads 0. -/
def State.readWord (s : State) (address : BitVec 8) : Word :=
  let a := address.toNat
  if a = 0x00 then 0x0464
  else if a = 0x01 then 0x0001
  else if a = 0x08 then pack [(s.timebase.prescaler, 0)]
  else if a = 0x09 then pack [(s.regulation.period, 0)]
  else if a = 0x0A then pack [(s.target.detachLimit, 0)]
  else if a = 0x0B then pack [(s.target.resyncWait, 0)]
  else if a = 0x0C then lowWord s.timebase.count
  else if a = 0x0D then s.timebase.highHolding
  else if a = 0x10 then s.interrupts.flags.setWidth 16
  else if a = 0x11 then s.interrupts.enables.setWidth 16
  else if a = 0x14 then s.management.command
  else if a = 0x15 then s.management.argument
  else if a = 0x16 then pack [(s.management.status.code, 0), (bits s.management.command 0 8, 8)]
  else if 0x18 ≤ a ∧ a ≤ 0x1F then s.management.staging[a - 0x18]?.getD 0
  else if 0x20 ≤ a ∧ a ≤ 0x34 then s.management.snapshot.word (a - 0x20)
  else if 0x40 ≤ a ∧ a ≤ 0x48 then faultWord s.faultLog (a - 0x40)
  else if 0x50 ≤ a ∧ a ≤ 0x5F then s.portWord (Fin.ofNat 4 ((a - 0x50) / 4)) ((a - 0x50) % 4)
  else if 0x60 ≤ a ∧ a ≤ 0x64 then s.targetWord (a - 0x60)
  else if 0x80 ≤ a ∧ a ≤ 0x97 then (s.counter (Fin.ofNat 6 ((a - 0x80) / 4))).word ((a - 0x80) % 4)
  else if a = 0x98 then s.overflowWord
  else if a = 0x99 then pack [(s.monitor.bank.code, 0)]
  else if 0xA0 ≤ a ∧ a ≤ 0xA6 then pack [(s.monitor.edges[a - 0xA0]?.getD 0, 0)]
  else if a = 0xA8 then pack [(s.management.histogramBin, 0), (s.management.histogramInitiator, 3)]
  else if a = 0xA9 then pack [(s.monitor.bins[s.management.histogramInitiator][s.management.histogramBin], 0)]
  else 0

/-! ### Writes -/

/-- A write of the histogram index: bits 0-2 the bin, bits 3-4 the initiator (R189). -/
def State.writeHistogramIndex (s : State) (v : Word) : State :=
  { s with management := { s.management with
      histogramBin := Fin.ofNat 8 (bits v 0 3), histogramInitiator := Fin.ofNat 4 (bits v 3 2) } }

/-- A write of the argument register (R190). -/
def State.writeArgument (s : State) (v : Word) : State := { s with management := { s.management with argument := v } }

/-- A read of a counter's low word latches its high word (R166). -/
def State.readCounterLow (s : State) (c : CounterIdx) : State :=
  (s.modCounter c fun k => { k with readHolding := highWord k.value }).drive (lowWord (s.counter c).value)

/-- A write to a register of a counter, `k` counted from 0x80 + 4c. -/
def State.writeCounterWord (s : State) (c : CounterIdx) (k : Nat) (v : Word) : State :=
  match k with
  | 0 => s.writeCounterLow c v
  | 1 => s.writeCounterHigh c v
  | 2 => s.writeControl c .a v
  | _ => s.writeControl c .b v

/-- A write to any address (R187): taken as the owning rule lays down; ignored for an RO or an unmapped address. -/
def State.writeWord (s : State) (address : BitVec 8) (v : Word) : State :=
  let a := address.toNat
  if a = 0x08 then s.writePrescaler v
  else if a = 0x09 then s.writePeriod v
  else if a = 0x0A then s.writeDetachLimit v
  else if a = 0x0B then s.writeResyncWait v
  else if a = 0x10 then s.clearFlags v
  else if a = 0x11 then s.writeEnables v
  else if a = 0x14 then s.writeCommand v
  else if a = 0x15 then s.writeArgument v
  else if 0x18 ≤ a ∧ a ≤ 0x1F then s.setStaged (Fin.ofNat 8 (a - 0x18)) v
  else if 0x80 ≤ a ∧ a ≤ 0x97 then s.writeCounterWord (Fin.ofNat 6 ((a - 0x80) / 4)) ((a - 0x80) % 4) v
  else if a = 0x98 then s.clearOverflows v
  else if a = 0xA8 then s.writeHistogramIndex v
  else s

/-! ### Meanings -/

/-- INTERRUPT_FLAGS_WRITE (R182). -/
def execInterruptFlagsWrite (v : Word) (s : State) : Host.Outcome State Fault Refusal := .next (s.outOfReset fun t => t.clearFlags v)

/-- INTERRUPT_ENABLES_WRITE (R183). -/
def execInterruptEnablesWrite (v : Word) (s : State) : Host.Outcome State Fault Refusal := .next (s.outOfReset fun t => t.writeEnables v)

/-- COUNTER_VALUE_LOW_READ (R166). -/
def execCounterValueLowRead (c : CounterIdx) (s : State) : Host.Outcome State Fault Refusal :=
  .next (s.outOfReset fun t => t.readCounterLow c)

/-- COUNTER_VALUE_HIGH_WRITE (R167). -/
def execCounterValueHighWrite (c : CounterIdx) (v : Word) (s : State) : Host.Outcome State Fault Refusal :=
  .next (s.outOfReset fun t => t.writeCounterHigh c v)

/-- COUNTER_VALUE_LOW_WRITE (R167). -/
def execCounterValueLowWrite (c : CounterIdx) (v : Word) (s : State) : Host.Outcome State Fault Refusal :=
  .next (s.outOfReset fun t => t.writeCounterLow c v)

/-- COUNTER_CONTROL_WRITE (R156). -/
def execCounterControlWrite (c : CounterIdx) (w : ControlWord) (v : Word) (s : State) : Host.Outcome State Fault Refusal :=
  .next (s.outOfReset fun t => t.writeControl c w v)

/-- COUNTER_OVERFLOW_FLAGS_WRITE (R162). -/
def execCounterOverflowFlagsWrite (v : Word) (s : State) : Host.Outcome State Fault Refusal :=
  .next (s.outOfReset fun t => t.clearOverflows v)

/-- HISTOGRAM_INDEX_WRITE (R189). -/
def execHistogramIndexWrite (v : Word) (s : State) : Host.Outcome State Fault Refusal :=
  .next (s.outOfReset fun t => t.writeHistogramIndex v)

/-- STAGING_WRITE (R188). -/
def execStagingWrite (k : Fin 8) (v : Word) (s : State) : Host.Outcome State Fault Refusal := .next (s.outOfReset fun t => t.setStaged k v)

/-- REGISTER_WRITE (R187): the argument register takes the word; an RO or unmapped address ignores it. -/
def execRegisterWrite (a : BitVec 8) (v : Word) (s : State) : Host.Outcome State Fault Refusal :=
  .next (s.outOfReset fun t => t.writeWord a v)

end Sys2Proof.Machine
end

