-- ==== Sys2Proof/Machine/Wire.lean ====
section
/-!
DEFINITION. The messages as the links carry them (R30): header fields, each most significant bit first, and the beat records
behind them. `FromInitiator.command` and `FromTarget.command` read an arriving message as the command it is; `initiatorMessage` and
`targetMessage` are the messages a partner sends for a command; `ToInitiator.header` and `ToTarget.header` are the headers the part
sends.

DESIGN CHOICE (log entry 17): R30 says nothing of header bits behind the last field, nor of beat records behind a kind that carries
none (LINK_RESET, CREDIT, RESYNC_ACK, RESET_NOTICE). The message is taken by its kind and fields, and the surplus is not read.
-/

namespace Sys2Proof.Machine

/-- A header field, most significant bit first (R30). -/
def fieldBits (width value : Nat) : List Bool := (List.range width).map fun k => value.testBit (width - 1 - k)

/-- The number that bits spell, most significant bit first (R30). -/
def bitsValue (l : List Bool) : Nat := l.foldl (fun n b => 2 * n + b.toNat) 0

/-- Take a field off the front of a header; none when the header is too short. -/
def takeField (width : Nat) (l : List Bool) : Option (Nat × List Bool) :=
  if l.length < width then none else some (bitsValue (l.take width), l.drop width)

/-- The width of the kind field, of an initiator link's tag, of the target link's tag, of beats and data count, of the address,
and of a count body (R30; the count's width is deduced from its range 0-127, log entry 9). -/
def kindWidth : Nat := 4
def initiatorTagWidth : Nat := 4
def targetTagWidth : Nat := 6
def beatsWidth : Nat := 4
def addressWidth : Nat := 32
def countWidth : Nat := 7

/-- The status codes of an initiator link (R30). -/
def Status.code : Status → Nat
  | .okay => 0
  | .errTarget => 1
  | .errTimeout => 2
  | .errDecode => 3
  | .errDenied => 4
  | .errRefused => 5

/-- The op of a 1-bit code (R30). -/
def opOfBit (n : Nat) : Op := if n = 0 then .read else .write

/-- The target status of a 1-bit code (R30). -/
def targetStatusOfBit (n : Nat) : TargetStatus := if n = 0 then .okay else .fail

/-- The code of a target status (R30). -/
def targetStatusCode : TargetStatus → Nat
  | .okay => 0
  | .fail => 1

/-- A REQUEST header with a tag of the given width (R30). -/
def requestHeader (tagWidth tag : Nat) (op : Op) (beats : Nat) (address : Addr) : List Bool :=
  fieldBits kindWidth MessageKind.request.code ++ fieldBits tagWidth tag ++ fieldBits 1 (opCode op) ++
  fieldBits beatsWidth beats ++ fieldBits addressWidth address.toNat

/-- A RESPONSE header with tag and status of the given widths (R30). -/
def responseHeader (tagWidth tag statusWidth status dataCount : Nat) : List Bool :=
  fieldBits kindWidth MessageKind.response.code ++ fieldBits tagWidth tag ++ fieldBits statusWidth status ++
  fieldBits beatsWidth dataCount

/-- A message of a kind with one count field (R30). -/
def countMessage (k : MessageKind) (n : Nat) : List Bool := fieldBits kindWidth k.code ++ fieldBits countWidth n

/-- The header of a message the part sends to an initiator (R30, R33, R34). -/
def ToInitiator.header : ToInitiator → List Bool
  | .response t st data => responseHeader initiatorTagWidth t 3 st.code data.length
  | .credit n => countMessage .credit n
  | .revoke => fieldBits kindWidth MessageKind.revoke.code
  | .linkReset => fieldBits kindWidth MessageKind.linkReset.code

/-- The header of a message the part sends to the target (R30, R36). -/
def ToTarget.header : ToTarget → List Bool
  | .request t op beats a _ => requestHeader targetTagWidth t op beats a
  | .resync => fieldBits kindWidth MessageKind.resync.code
  | .linkReset => fieldBits kindWidth MessageKind.linkReset.code

/-- A message as it arrives on an initiator link: its header and the WRITE beat records behind it. -/
structure FromInitiator where
  header : List Bool
  records : List WriteBeat
deriving DecidableEq, Repr

/-- A message as it arrives on the target link: its header and the RESPONSE beat records behind it. -/
structure FromTarget where
  header : List Bool
  records : List DataBeat
deriving DecidableEq, Repr

/-- The fields of a REQUEST behind its kind (R30). DESIGN CHOICE: bits behind the address are not read (log entry 17). -/
def readRequest (i : Initiator) (l : List Bool) (data : List WriteBeat) : Option Instr :=
  match takeField initiatorTagWidth l with
  | none => none
  | some (tag, l) =>
    match takeField 1 l with
    | none => none
    | some (op, l) =>
      match takeField beatsWidth l with
      | none => none
      | some (beats, l) =>
        match takeField addressWidth l with
        | none => none
        | some (a, _) =>
          some (.request i { tag := Fin.ofNat 16 tag, op := opOfBit op, address := BitVec.ofNat 32 a, beats := beats, data := data })

/-- The fields of a RESPONSE behind its kind (R30). DESIGN CHOICE: bits behind the data count are not read (log entry 17). -/
def readResponse (l : List Bool) (data : List DataBeat) : Option Instr :=
  match takeField targetTagWidth l with
  | none => none
  | some (tag, l) =>
    match takeField 1 l with
    | none => none
    | some (st, l) =>
      match takeField beatsWidth l with
      | none => none
      | some (n, _) =>
        some (.targetResponse { tag := Fin.ofNat 64 tag, status := targetStatusOfBit st, dataCount := n, data := data })

/-- The command an arriving message of initiator link `i` is, by its kind code (R30, R31); none for a header that ends inside a
field (log entry 15). DESIGN CHOICE: bits or beat records behind a LINK_RESET are not read (log entry 17). -/
def FromInitiator.command (m : FromInitiator) (i : Initiator) : Option Instr :=
  match takeField kindWidth m.header with
  | none => none
  | some (k, l) =>
    match MessageKind.ofCode k with
    | some .request => readRequest i l m.records
    | some .linkReset => some (.linkReset i)
    | _ => some (.undefinedKindMessage (.initiator i) k)

/-- The command an arriving message of the target link is, by its kind code (R30, R31); none for a header that ends inside a field
(log entry 15). DESIGN CHOICE: bits behind a count, or beat records behind CREDIT, RESYNC_ACK or RESET_NOTICE, are not read (log
entry 17). -/
def FromTarget.command (m : FromTarget) : Option Instr :=
  match takeField kindWidth m.header with
  | none => none
  | some (k, l) =>
    match MessageKind.ofCode k with
    | some .response => readResponse l m.records
    | some .credit => (takeField countWidth l).map fun f => .targetCredit f.1
    | some .resyncAck => (takeField countWidth l).map fun f => .resyncAck f.1
    | some .resetNotice => (takeField countWidth l).map fun f => .resetNotice f.1
    | _ => some (.undefinedKindMessage .target k)

/-- The message an initiator sends for a command that arrives on its link (R30). -/
def initiatorMessage : Instr → Option FromInitiator
  | .request _ r => some { header := requestHeader initiatorTagWidth r.tag r.op r.beats r.address, records := r.data }
  | .linkReset _ => some { header := fieldBits kindWidth MessageKind.linkReset.code, records := [] }
  | .undefinedKindMessage (.initiator _) k => some { header := fieldBits kindWidth k, records := [] }
  | _ => none

/-- The message the target sends for a command that arrives on its link (R30). -/
def targetMessage : Instr → Option FromTarget
  | .targetResponse r =>
    some { header := responseHeader targetTagWidth r.tag 1 (targetStatusCode r.status) r.dataCount, records := r.data }
  | .targetCredit n => some { header := countMessage .credit n, records := [] }
  | .resyncAck n => some { header := countMessage .resyncAck n, records := [] }
  | .resetNotice n => some { header := countMessage .resetNotice n, records := [] }
  | .undefinedKindMessage .target k => some { header := fieldBits kindWidth k, records := [] }
  | _ => none

end Sys2Proof.Machine
end

