-- ==== Sys2Proof/Machine/Dispatch.lean ====
section
/-!
DEFINITION. `exec`: one arm per command, each one direct call of that command's meaning.
-/

namespace Sys2Proof.Machine

def exec (i : Instr) (s : State) : Host.Outcome State Fault Refusal :=
  match i with
  | .request j r => Sys2Proof.Machine.execRequest j r s
  | .linkReset j => Sys2Proof.Machine.execLinkReset j s
  | .undefinedKindMessage l k => Sys2Proof.Machine.execUndefinedKindMessage l k s
  | .targetResponse r => Sys2Proof.Machine.execTargetResponse r s
  | .targetCredit n => Sys2Proof.Machine.execTargetCredit n s
  | .resyncAck n => Sys2Proof.Machine.execResyncAck n s
  | .resetNotice n => Sys2Proof.Machine.execResetNotice n s
  | .tick => Sys2Proof.Machine.execTick s
  | .expiryClaim => Sys2Proof.Machine.execExpiryClaim s
  | .periodExpiry => Sys2Proof.Machine.execPeriodExpiry s
  | .resyncWaitExpiry => Sys2Proof.Machine.execResyncWaitExpiry s
  | .grant => Sys2Proof.Machine.execGrant s
  | .issue => Sys2Proof.Machine.execIssue s
  | .drainCompletion p => Sys2Proof.Machine.execDrainCompletion p s
  | .deviceReset => Sys2Proof.Machine.execDeviceReset s
  | .portEnable => Sys2Proof.Machine.execPortEnable s
  | .portDrain => Sys2Proof.Machine.execPortDrain s
  | .portFence => Sys2Proof.Machine.execPortFence s
  | .targetResync => Sys2Proof.Machine.execTargetResync s
  | .targetOffline => Sys2Proof.Machine.execTargetOffline s
  | .writeWindow => Sys2Proof.Machine.execWriteWindow s
  | .readWindow => Sys2Proof.Machine.execReadWindow s
  | .writeProfile => Sys2Proof.Machine.execWriteProfile s
  | .readProfile => Sys2Proof.Machine.execReadProfile s
  | .writeEdges => Sys2Proof.Machine.execWriteEdges s
  | .budgetReload => Sys2Proof.Machine.execBudgetReload s
  | .histClear => Sys2Proof.Machine.execHistClear s
  | .counterFreeze => Sys2Proof.Machine.execCounterFreeze s
  | .counterUnfreeze => Sys2Proof.Machine.execCounterUnfreeze s
  | .counterClear => Sys2Proof.Machine.execCounterClear s
  | .trackerSnapshot => Sys2Proof.Machine.execTrackerSnapshot s
  | .faultPop => Sys2Proof.Machine.execFaultPop s
  | .trafficReset => Sys2Proof.Machine.execTrafficReset s
  | .unassignedCommand c => Sys2Proof.Machine.execUnassignedCommand c s
  | .prescalerWrite v => Sys2Proof.Machine.execPrescalerWrite v s
  | .regulationPeriodWrite v => Sys2Proof.Machine.execRegulationPeriodWrite v s
  | .detachLimitWrite v => Sys2Proof.Machine.execDetachLimitWrite v s
  | .resyncWaitWrite v => Sys2Proof.Machine.execResyncWaitWrite v s
  | .tickCountLowRead => Sys2Proof.Machine.execTickCountLowRead s
  | .interruptFlagsWrite v => Sys2Proof.Machine.execInterruptFlagsWrite v s
  | .interruptEnablesWrite v => Sys2Proof.Machine.execInterruptEnablesWrite v s
  | .counterValueLowRead c => Sys2Proof.Machine.execCounterValueLowRead c s
  | .counterValueHighWrite c v => Sys2Proof.Machine.execCounterValueHighWrite c v s
  | .counterValueLowWrite c v => Sys2Proof.Machine.execCounterValueLowWrite c v s
  | .counterControlWrite c w v => Sys2Proof.Machine.execCounterControlWrite c w v s
  | .counterOverflowFlagsWrite v => Sys2Proof.Machine.execCounterOverflowFlagsWrite v s
  | .histogramIndexWrite v => Sys2Proof.Machine.execHistogramIndexWrite v s
  | .stagingWrite k v => Sys2Proof.Machine.execStagingWrite k v s
  | .registerWrite a v => Sys2Proof.Machine.execRegisterWrite a v s

end Sys2Proof.Machine
end

