-- ==== Sys2Proof/Machine/Bus.lean ====
section
/-!
DEFINITION. The management bus (11.1, R186): which cycle of the strobes is an access, which command of the table an access is, what a
cycle does, and the word the port drives during it.
-/

namespace Sys2Proof.Machine

/-- One cycle of the management bus: the levels of MCS_N, MRD_N and MWR_N (true is high), MA7-MA0, and MD15-MD0 as the bus master
drives them in a write. -/
structure BusCycle where
  mcsN : Bool
  mrdN : Bool
  mwrN : Bool
  address : BitVec 8
  data : Word
deriving DecidableEq, Repr

/-- An access to the register window (R186). -/
inductive BusAccess where
  | read (address : BitVec 8)
  | write (address : BitVec 8) (value : Word)
deriving DecidableEq, Repr

/-- The access a cycle is (R186): a read with MRD_N low and MWR_N high, a write the other way round. With both strobes low the access
is ignored, with MCS_N high the strobes are, and with both strobes high there is none. -/
def BusCycle.access (b : BusCycle) : Option BusAccess :=
  if b.mcsN then none
  else
    match b.mrdN, b.mwrN with
    | false, true => some (.read b.address)
    | true, false => some (.write b.address b.data)
    | false, false => none
    | true, true => none

/-- The row of the table that a write of a code to the command register is (R190). -/
def commandOfCode (code : Word) : Instr :=
  if code = Config.codePortEnable then .portEnable
  else if code = Config.codePortDrain then .portDrain
  else if code = Config.codePortFence then .portFence
  else if code = Config.codeTargetResync then .targetResync
  else if code = Config.codeTargetOffline then .targetOffline
  else if code = Config.codeWriteWindow then .writeWindow
  else if code = Config.codeReadWindow then .readWindow
  else if code = Config.codeWriteProfile then .writeProfile
  else if code = Config.codeReadProfile then .readProfile
  else if code = Config.codeWriteEdges then .writeEdges
  else if code = Config.codeBudgetReload then .budgetReload
  else if code = Config.codeHistClear then .histClear
  else if code = Config.codeCounterFreeze then .counterFreeze
  else if code = Config.codeCounterUnfreeze then .counterUnfreeze
  else if code = Config.codeCounterClear then .counterClear
  else if code = Config.codeTrackerSnapshot then .trackerSnapshot
  else if code = Config.codeFaultPop then .faultPop
  else if code = Config.codeTrafficReset then .trafficReset
  else .unassignedCommand code

/-- The row of the table that a write to a register of counter `c` is, `k` counted from 0x80 + 4c. -/
def counterWriteCommand (c : CounterIdx) (k : Nat) (v : Word) : Instr :=
  match k with
  | 0 => .counterValueLowWrite c v
  | 1 => .counterValueHighWrite c v
  | 2 => .counterControlWrite c .a v
  | _ => .counterControlWrite c .b v

/-- The row of the table that a write to an address is (R187 and the map of 11.2). -/
def writeCommandAt (address : BitVec 8) (v : Word) : Instr :=
  let a := address.toNat
  if a = 0x08 then .prescalerWrite v
  else if a = 0x09 then .regulationPeriodWrite v
  else if a = 0x0A then .detachLimitWrite v
  else if a = 0x0B then .resyncWaitWrite v
  else if a = 0x10 then .interruptFlagsWrite v
  else if a = 0x11 then .interruptEnablesWrite v
  else if a = 0x14 then commandOfCode v
  else if 0x18 ≤ a ∧ a ≤ 0x1F then .stagingWrite (Fin.ofNat 8 (a - 0x18)) v
  else if 0x80 ≤ a ∧ a ≤ 0x97 then counterWriteCommand (Fin.ofNat 6 ((a - 0x80) / 4)) ((a - 0x80) % 4) v
  else if a = 0x98 then .counterOverflowFlagsWrite v
  else if a = 0xA8 then .histogramIndexWrite v
  else .registerWrite address v

/-- The row of the table that a read of an address is: the two latching reads have one (R123, R166), and no other read has an
effect (R186). -/
def readCommandAt (address : BitVec 8) : Option Instr :=
  let a := address.toNat
  if a = 0x0C then some .tickCountLowRead
  else if 0x80 ≤ a ∧ a ≤ 0x97 ∧ a % 4 = 0 then some (.counterValueLowRead (Fin.ofNat 6 ((a - 0x80) / 4)))
  else none

/-- What a cycle of the bus does, as one event at the management port (R186): a write is its row's command; a read drives the addressed
word, and latches where its row does; a cycle that is no access does nothing. While RST_N is low every cycle is ignored (R195). -/
def State.busCycle (s : State) (b : BusCycle) : Host.Outcome State Fault Refusal :=
  match b.access with
  | none => .next s
  | some (.write a v) => exec (writeCommandAt a v) s
  | some (.read a) =>
    match readCommandAt a with
    | some c => exec c s
    | none => .next (s.outOfReset fun t => t.drive (t.readWord a))

/-- The word the port drives on MD15-MD0 during a cycle: the addressed word as it stands in a read, and in every other cycle none
(R186); none while RST_N is low (R195). -/
def State.busDrives (s : State) (b : BusCycle) : Option Word :=
  match b.access with
  | some (.read a) => if s.rstN then some (s.readWord a) else none
  | some (.write _ _) => none
  | none => none

end Sys2Proof.Machine
end

