-- ==== Sys2Proof/Safety.lean ====
section
/-!
DEFINITION. What a safe state of the UB-464 is: the laws the manual states of every moment between events, each as a predicate
on one state, which every step keeps. And the vocabulary in which a claim says what one command does: the pieces of state a frame
names, a record handed to the log, a command's completion, and what a claim makes of the entries.
-/

namespace Sys2Proof.Machine

/-- The credit law of an initiator link (R38, R45, R137): in ACTIVE or DRAINING the granted count plus the queued requests is 8; in
DISABLED or FENCED both are nothing; only an ACTIVE port holds requests. -/
abbrev State.CreditLaw (s : State) : Prop :=
  ∀ i : Initiator,
    ((s.port i).state = .active ∨ (s.port i).state = .draining → (s.port i).granted + (s.port i).queue.length = 8) ∧
    ((s.port i).state = .disabled ∨ (s.port i).state = .fenced → (s.port i).granted = 0) ∧
    ((s.port i).state ≠ .active → (s.port i).queue = [])

/-- The target credit law (R40): the count lies between 0 and 64, and is 0 in OFFLINE and RESYNCING. -/
abbrev State.TargetCreditLaw (s : State) : Prop :=
  s.target.credits ≤ 64 ∧ (s.target.state = .offline ∨ s.target.state = .resyncing → s.target.credits = 0)

/-- No entry is ISSUED while the target is OFFLINE or RESYNCING (R99). -/
abbrev State.NoneIssuedWhileAway (s : State) : Prop :=
  s.target.state = .offline ∨ s.target.state = .resyncing → ∀ x : EntryIdx, ∀ e ∈ s.entry x, e.phase ≠ .issued

/-- While the target is OFFLINE every entry is FREE or DETACHED and both issue queues are empty (R21, R98). -/
abbrev State.OfflineIsQuiet (s : State) : Prop :=
  s.target.state = .offline →
    s.target.highQueue = [] ∧ s.target.normalQueue = [] ∧ ∀ x : EntryIdx, ∀ e ∈ s.entry x, e.phase.isDetached = true

/-- While the target is ONLINE the detached count is below the detach limit, which is 1-64 (R114, R116). -/
abbrev State.QuarantineLaw (s : State) : Prop :=
  1 ≤ s.target.detachLimit ∧ s.target.detachLimit ≤ 64 ∧
  (s.target.state = .online → s.detachedCount < s.target.detachLimit)

/-- Which fields an entry holds in each state (R1, R3, R15): a live entry binds a tag; a DETACHED one has no tag, no expiry tick and
no write data; an ISSUED one has no write data; the predecessor list is non-empty exactly in WAITING. -/
abbrev State.EntryShape (s : State) : Prop :=
  ∀ x : EntryIdx, ∀ e ∈ s.entry x,
    (e.phase.live = true ↔ e.tag.isSome = true) ∧
    (e.phase.isDetached = true → e.expiryTick = none) ∧
    (e.phase.isDetached = true ∨ e.phase = .issued → e.writeData = []) ∧
    (e.phase = .waiting ↔ e.predecessors ≠ [])

/-- The dependency lists (R2): each in ascending order without repeats, and mirrors of one another. -/
abbrev State.ListsMirror (s : State) : Prop :=
  (∀ x : EntryIdx, ∀ e ∈ s.entry x,
    e.predecessors.Pairwise (· < ·) ∧ e.successors.Pairwise (· < ·) ∧ x ∉ e.predecessors ∧ x ∉ e.successors) ∧
  (∀ x y : EntryIdx, ((s.entry x).any fun e => e.predecessors.contains y) = ((s.entry y).any fun e => e.successors.contains x))

/-- An entry is READY exactly when it is held in the issue queue of its class, and it is held there once (R3, R98). -/
abbrev State.QueuesHoldReady (s : State) : Prop :=
  s.target.highQueue.Nodup ∧ s.target.normalQueue.Nodup ∧
  ∀ x : EntryIdx,
    (x ∈ s.target.highQueue ↔ ((s.entry x).any fun e => e.phase == .ready && e.cls == .high) = true) ∧
    (x ∈ s.target.normalQueue ↔ ((s.entry x).any fun e => e.phase == .ready && e.cls == .normal) = true)

/-- Within one initiator the tags of the queued requests and those bound to live entries are all distinct (R42). -/
abbrev State.TagsDistinct (s : State) : Prop :=
  (∀ i : Initiator, ((s.port i).queue.map Request.tag).Nodup) ∧
  (∀ i : Initiator, ∀ q ∈ (s.port i).queue, ∀ x : EntryIdx, ∀ e ∈ s.entry x, e.initiator = i → e.tag ≠ some q.tag) ∧
  (∀ x y : EntryIdx, ∀ e ∈ s.entry x, ∀ f ∈ s.entry y,
    x ≠ y → e.initiator = f.initiator → e.tag.isSome = true → e.tag ≠ f.tag)

/-- Every head status is what the five checks find of the head as the state now stands (R53, R60): NONE without a head. -/
abbrev State.HeadsTrue (s : State) : Prop :=
  ∀ i : Initiator,
    ((s.port i).queue = [] → s.head i = .noHead) ∧
    ∀ r ∈ (s.port i).queue.head?,
      (s.verdict i r = .pass ∧ s.head i = .eligible) ∨
      (∃ w ∈ [WaitReason.target, .halt, .budget, .quota], s.verdict i r = .wait w ∧ s.head i = .waiting w)

/-- Every queued request passed the form check (R43, R45). -/
abbrev State.QueuedWellFormed (s : State) : Prop :=
  ∀ i : Initiator, ∀ q ∈ (s.port i).queue, requestMalformed q = false

/-- Every entry carries 1 to 8 beats (R1). -/
abbrev State.EntriesInRange (s : State) : Prop := ∀ x : EntryIdx, ∀ e ∈ s.entry x, 1 ≤ e.beats ∧ e.beats ≤ 8

/-- Every committed record is within its bounds: profiles (R49), windows (R69), edges (R168). -/
abbrev State.ConfigBounds (s : State) : Prop :=
  (∀ i : Initiator, (s.profile i).withinBounds = true ∧ (s.profile i).budget ≤ 65535 ∧ (s.profile i).carryLimit ≤ 65535 ∧
    (s.profile i).deadline ≤ 65535) ∧
  (∀ w : WindowIdx, s.windows[w].withinBounds = true) ∧ edgesValid s.monitor.edges = true ∧
  (∀ k : Fin 7, s.monitor.edges[k] ≤ 65535)

/-- The counts and timers stay within the ranges the manual gives them (R83, R97, R99, R121, R170, R177). An expiry is due only of a timer
that stands one tick before its end (log entry 3). -/
abbrev State.RangesHold (s : State) : Prop :=
  (∀ i : Initiator, s.remaining i ≤ 131070) ∧
  s.regulation.period ≤ 65535 ∧
  (s.regulation.timer = none ↔ s.regulation.period = 0) ∧
  (∀ n ∈ s.regulation.timer, n.ticks < s.regulation.period ∧ (n.expiryDue = true → n.ticks + 1 = s.regulation.period)) ∧
  s.target.consecutiveHigh ≤ 4 ∧
  1 ≤ s.target.resyncWait ∧ s.target.resyncWait ≤ 65535 ∧
  (s.target.resyncTimer.isSome = true ↔ s.target.state = .resyncing) ∧
  (∀ n ∈ s.target.resyncTimer, 1 ≤ n.ticks ∧ n.ticks ≤ 65535 ∧ (n.expiryDue = true → n.ticks = 1)) ∧
  1 ≤ s.timebase.prescaler ∧ s.timebase.prescaler ≤ 256 ∧ s.timebase.progress < s.timebase.prescaler ∧
  s.faultLog.length ≤ 16 ∧
  (∀ i : Initiator, ∀ k : Fin 8, s.monitor.bins[i][k] ≤ 65535)

/-- The tracker's own laws together: what an entry holds, the mirrored lists, the issue queues (R1, R2, R3). -/
abbrev State.TrackerLaws (s : State) : Prop := s.EntryShape ∧ s.ListsMirror ∧ s.QueuesHoldReady

/-! ### The pieces of state a frame names -/

/-- Every piece of state of the part, by the manual's own division, with the model's `sampleOwed`, `busData` and `links`. The model's
own fields `choices` and `pending` are not pieces. -/
inductive Piece where
  | entry (x : EntryIdx)
  | portState (i : Initiator)
  | granted (i : Initiator)
  | queue (i : Initiator)
  | head (i : Initiator)
  | profile (i : Initiator)
  | highPointer
  | normalPointer
  | window (w : WindowIdx)
  | remaining (i : Initiator)
  | period
  | periodTimer
  | targetState
  | credits
  | highQueue
  | normalQueue
  | consecutiveHigh
  | resyncTimer
  | resyncWait
  | detachLimit
  | prescaler
  | progress
  | count
  | tickHolding
  | counterValue (c : CounterIdx)
  | counterControl (c : CounterIdx)
  | overflow (c : CounterIdx)
  | edgeMemory (c : CounterIdx)
  | readHolding (c : CounterIdx)
  | writeHolding (c : CounterIdx)
  | bank
  | edges
  | bins (i : Initiator)
  | faultLog
  | flag (c : Cause)
  | enables
  | argument
  | command
  | status
  | staging (k : Fin 8)
  | histogramIndex
  | snapshot
  | busData
  | link (i : Initiator)
  | targetLink
  | rstN
  | sampleOwed
deriving DecidableEq, Repr

/-- Is the piece the same in the two states? -/
def Piece.same (s t : State) : Piece → Bool
  | .entry x => t.entry x = s.entry x
  | .portState i => (t.port i).state = (s.port i).state
  | .granted i => (t.port i).granted = (s.port i).granted
  | .queue i => (t.port i).queue = (s.port i).queue
  | .head i => t.head i = s.head i
  | .profile i => t.profile i = s.profile i
  | .highPointer => t.admission.highPointer = s.admission.highPointer
  | .normalPointer => t.admission.normalPointer = s.admission.normalPointer
  | .window w => t.windows[w] = s.windows[w]
  | .remaining i => t.remaining i = s.remaining i
  | .period => t.regulation.period = s.regulation.period
  | .periodTimer => t.regulation.timer = s.regulation.timer
  | .targetState => t.target.state = s.target.state
  | .credits => t.target.credits = s.target.credits
  | .highQueue => t.target.highQueue = s.target.highQueue
  | .normalQueue => t.target.normalQueue = s.target.normalQueue
  | .consecutiveHigh => t.target.consecutiveHigh = s.target.consecutiveHigh
  | .resyncTimer => t.target.resyncTimer = s.target.resyncTimer
  | .resyncWait => t.target.resyncWait = s.target.resyncWait
  | .detachLimit => t.target.detachLimit = s.target.detachLimit
  | .prescaler => t.timebase.prescaler = s.timebase.prescaler
  | .progress => t.timebase.progress = s.timebase.progress
  | .count => t.timebase.count = s.timebase.count
  | .tickHolding => t.timebase.highHolding = s.timebase.highHolding
  | .counterValue c => (t.counter c).value = (s.counter c).value
  | .counterControl c => (t.counter c).control = (s.counter c).control
  | .overflow c => (t.counter c).overflow = (s.counter c).overflow
  | .edgeMemory c => (t.counter c).edgeMemory = (s.counter c).edgeMemory
  | .readHolding c => (t.counter c).readHolding = (s.counter c).readHolding
  | .writeHolding c => (t.counter c).writeHolding = (s.counter c).writeHolding
  | .bank => t.monitor.bank = s.monitor.bank
  | .edges => t.monitor.edges = s.monitor.edges
  | .bins i => t.monitor.bins[i] = s.monitor.bins[i]
  | .faultLog => t.faultLog = s.faultLog
  | .flag c => t.flag c = s.flag c
  | .enables => t.interrupts.enables = s.interrupts.enables
  | .argument => t.management.argument = s.management.argument
  | .command => t.management.command = s.management.command
  | .status => t.management.status = s.management.status
  | .staging k => t.staged k = s.staged k
  | .histogramIndex =>
    t.management.histogramBin = s.management.histogramBin ∧ t.management.histogramInitiator = s.management.histogramInitiator
  | .snapshot => t.management.snapshot = s.management.snapshot
  | .busData => t.management.busData = s.management.busData
  | .link i => t.sentTo i = s.sentTo i
  | .targetLink => t.links.toTarget = s.links.toTarget
  | .rstN => t.rstN = s.rstN
  | .sampleOwed => t.sampleOwed = s.sampleOwed

/-- The frame of an event from `s` to `t`: every piece but those listed is the same, and so are the waiting commands. -/
abbrev State.Frame (s t : State) (changed : List Piece) : Prop :=
  t.pending = s.pending ∧ ∀ p : Piece, p ∉ changed → p.same s t = true

/-- What a report to the monitor may change without a latency: counter values, overflow flags, the bank, COUNTER_OVF. -/
def Piece.ofReport : List Piece :=
  (List.finRange 6).map .counterValue ++ (List.finRange 6).map .overflow ++ [.bank, .flag .counterOvf]

/-- What the samples of a tick may change: as a report, and the EDGE memories. -/
def Piece.ofSample : List Piece := Piece.ofReport ++ (List.finRange 6).map .edgeMemory

/-- What a re-check may change: head statuses, and for the heads it refuses the queues, credits and links; BUDGET_WAIT; reports. -/
def Piece.ofRecheck : List Piece :=
  initiators.map .head ++ initiators.map .queue ++ initiators.map .granted ++ initiators.map .link ++
  .flag .budgetWait :: Piece.ofReport

/-- What the notices after a claim may change: the target state, with TARGET_STATE, and a re-check's pieces. -/
def Piece.ofNotices : List Piece := .targetState :: .flag .targetState :: Piece.ofRecheck

/-- What freeing and detaching may change: entries and issue queues. -/
def Piece.ofClaim : List Piece := .highQueue :: .normalQueue :: entryIndices.map .entry

/-- What a record handed to the fault log may change. -/
def Piece.ofFault : List Piece := [.faultLog, .flag .fault, .flag .faultLost]

/-- What the completion of a command changes. -/
def Piece.ofCommand : List Piece := [.command, .status, .flag .commandRefused]

/-! ### What one event does -/

/-- A record is handed to the fault log (R177, R178): stored with its tick and FAULT set, or dropped and FAULT_LOST set. -/
abbrev State.HandsFault (s t : State) (r : FaultReport) : Prop :=
  if s.faultLog.length < 16 then
    t.faultLog = s.faultLog ++ [{ report := r, tick := s.timebase.count }] ∧ t.flag .fault = true ∧
    t.flag .faultLost = s.flag .faultLost
  else t.faultLog = s.faultLog ∧ t.flag .fault = s.flag .fault ∧ t.flag .faultLost = true

/-- A command completes with a status (R190, R191): the code and the status are held, and every status but DONE sets
COMMAND_REFUSED. -/
abbrev State.Completes (s t : State) (code : Word) (st : CommandStatus) : Prop :=
  t.management.command = code ∧ t.management.status = st ∧
  t.flag .commandRefused = (s.flag .commandRefused || decide (st ≠ .done))

/-- The same transaction: every field but the phase and the dependency lists is kept. -/
def Entry.carriedBy (e f : Entry) : Bool :=
  f = { e with phase := f.phase, predecessors := f.predecessors, successors := f.successors }

/-- The entry is kept: FREE stays FREE, and an entry keeps its transaction and its phase, or goes from WAITING to READY (R8). -/
def State.entryKept (s t : State) (x : EntryIdx) : Bool :=
  match s.entry x, t.entry x with
  | none, none => true
  | some e, some f => e.carriedBy f && (f.phase = e.phase || (e.phase = .waiting && f.phase = .ready))
  | _, _ => false

/-- The entry is detached with the cause: its tag binding, expiry tick and write data are gone, the rest is kept (R15). -/
def State.entryDetached (s t : State) (x : EntryIdx) (c : DetachCause) : Bool :=
  match s.entry x, t.entry x with
  | some e, some f =>
    f.phase = .detached c && { e with tag := none, expiryTick := none, writeData := [] }.carriedBy f
  | _, _ => false

/-- What a claim makes of entry `x` (R17): a live entry it selects is freed when WAITING or READY and detached with the claim's cause
when ISSUED; every other entry is kept. -/
def State.settledBy (s t : State) (sel : Entry → Bool) (c : DetachCause) (x : EntryIdx) : Bool :=
  match s.entry x with
  | none => (t.entry x).isNone
  | some e =>
    if sel e && e.phase.live then
      if e.phase = .issued then s.entryDetached t x c else (t.entry x).isNone
    else s.entryKept t x

/-- What a claim that frees the entries of `gone` makes of an entry that it leaves (R9): the freed entries leave both its lists, and a
WAITING entry all of whose predecessors are freed is READY. -/
def Entry.outliving (f : Entry) (gone : EntryIdx → Bool) : Entry :=
  { f with
    phase := if f.phase = .waiting ∧ f.predecessors.all gone = true then .ready else f.phase
    predecessors := f.predecessors.filter fun p => !gone p
    successors := f.successors.filter fun y => !gone y }

/-- The entries of a class that a claim releases, in the order in which they join their queue (R9, R10): the freed entries are taken in
ascending index, each releasing, in ascending index, the WAITING entries left that it is the last of the freed to hold back. -/
def State.releases (s : State) (gone : EntryIdx → Bool) (c : Cls) : List EntryIdx :=
  (entryIndices.filter gone).flatMap fun x =>
    entryIndices.filter fun y => !gone y && (s.entry y).any fun f =>
      f.phase = .waiting && f.cls = c && f.predecessors.all gone && f.predecessors.getLast? = some x

/-- A claim leaves the tracker and the issue queues exactly so (R9, R10, R15): the entries of `gone` are FREE; every other entry outlives
them, detached with the cause `detaches` gives it, if any; and each issue queue loses what is freed and gains, at its tail, what is
released. -/
abbrev State.Settles (s t : State) (gone : EntryIdx → Bool) (detaches : Entry → Option DetachCause := fun _ => none) : Prop :=
  (∀ y : EntryIdx, t.entry y = if gone y then none else (s.entry y).map fun f =>
    match detaches f with
    | none => f.outliving gone
    | some c => { f.outliving gone with phase := .detached c, tag := none, expiryTick := none, writeData := [] }) ∧
  t.target.highQueue = (s.target.highQueue.filter fun y => !gone y) ++ s.releases gone .high ∧
  t.target.normalQueue = (s.target.normalQueue.filter fun y => !gone y) ++ s.releases gone .normal

/-- A claim that frees the WAITING and READY entries `sel` selects and detaches the ISSUED ones leaves the tracker and the issue queues
exactly so (R9, R10, R15, R18 to R21). -/
abbrev State.SettlesLive (s t : State) (sel : Entry → Bool) (c : DetachCause) : Prop :=
  s.Settles t (fun x => (s.entry x).any fun e => sel e && (e.phase = .waiting || e.phase = .ready))
    (fun e => if sel e && e.phase = .issued then some c else none)

/-- The answers a claim sends to initiator `i`: one for each live entry it selects, in ascending entry index (R11). -/
def State.answersTo (s : State) (i : Initiator) (sel : Entry → Bool) (st : Status) : List ToInitiator :=
  entryIndices.filterMap fun x => (s.entry x).bind fun e =>
    if sel e && e.phase.live && e.initiator = i then e.tag.map fun t => .response t st [] else none

/-- The number of RESPONSEs sent to initiator `i`. -/
def State.responsesTo (s : State) (i : Initiator) : Nat :=
  (s.sentTo i).countP fun
    | .response _ _ _ => true
    | _ => false

/-- The requests of initiator `i` the part still owes an answer: those in its ingress queue and those in live entries (R3, R45). -/
def State.owed (s : State) (i : Initiator) : Nat := (s.port i).queue.length + s.outstanding i

/-- The drain of port `i` has nothing left to wait for: the notice that completes it is due (R142, log entry 4). -/
def State.drainDue (s : State) (i : Initiator) : Bool := (s.port i).state = .draining && s.outstanding i = 0

/-- The port takes a PORT_FENCE or a LINK_RESET as ACTIVE, or as DRAINING with its drain not yet due (R145, R148). -/
def State.openPort (s : State) (i : Initiator) : Bool :=
  (s.port i).state = .active || ((s.port i).state = .draining && s.outstanding i ≠ 0)

/-- What the monitor's counters gain from the reports `rs` while no add can freeze the bank (R157, R160, R162, R163): each counter
that takes a report adds its amount modulo 2^32, and none does in a FROZEN bank. -/
abbrev State.Counts (s t : State) (rs : List Report) : Prop :=
  s.monitor.mayFreeze = false → ∀ c : CounterIdx,
    (t.counter c).value = (s.counter c).value +
      BitVec.ofNat 32 (if s.monitor.bank = .running then
        (rs.map fun r => if (s.counter c).control.takes r then r.amount else 0).sum else 0)

/-- The detached-count notice of a claim (R116, R117): a changed count that stands at or above the limit makes an ONLINE target SUSPECT
and reports TARGET_STATE; in every other case the state and the flag stay. -/
abbrev State.TakesDetachedCount (s t : State) : Prop :=
  let reached : Bool :=
    t.detachedCount ≠ s.detachedCount ∧ s.target.state = .online ∧ s.target.detachLimit ≤ t.detachedCount
  t.target.state = (if reached then .suspect else s.target.state) ∧ t.flag .targetState = (s.flag .targetState || reached)

/-- Does the claim between the two states start a re-check (R60)? It does when it freed an entry or changed the target state. -/
def State.startsRecheck (s t : State) : Bool := t.freeCount ≠ s.freeCount || t.target.state ≠ s.target.state

/-! ### What the check of the heads does (R53, R57, R60, R61) -/

/-- What a port and its link hold as the check of its head finds them, or leaves them. -/
structure PortView where
  queue : List Request
  granted : Nat
  status : HeadStatus
  sent : List ToInitiator
deriving DecidableEq, Repr

/-- What port `i` and its link hold. -/
def State.view (s : State) (i : Initiator) : PortView :=
  { queue := (s.port i).queue, granted := (s.port i).granted, status := s.head i, sent := s.sentTo i }

/-- Every port as `s` holds it, with answers sent to its initiator before the check. -/
def State.viewAfter (s : State) (answers : Initiator → List ToInitiator) (i : Initiator) : PortView :=
  { s.view i with sent := s.sentTo i ++ answers i }

/-- The requests at the front of a queue that the five checks refuse as `t` stands, each with its reason. -/
def State.refusedFront (t : State) (i : Initiator) : List Request → List (Request × HeadRefusal)
  | [] => []
  | r :: rest =>
    match t.verdict i r with
    | .refuse why => (r, why) :: State.refusedFront t i rest
    | .wait _ => []
    | .pass => []

/-- The status of a queue whose head is not refused: NONE, ELIGIBLE, or WAITING with the reason the checks find (R53). -/
def State.statusOf (t : State) (i : Initiator) : List Request → HeadStatus
  | [] => .noHead
  | r :: _ =>
    match t.verdict i r with
    | .pass => .eligible
    | .wait w => .waiting w
    | .refuse _ => .noHead

/-- What the check of its head makes of a port (R61): each refused request is answered with the status of the check that refused it and
then credited, and the first request that stays, if any, is the head with its status. -/
def State.afterCheck (t : State) (i : Initiator) (v : PortView) : PortView :=
  let refused := t.refusedFront i v.queue
  let rest := v.queue.drop refused.length
  { queue := rest, granted := v.granted + refused.length, status := t.statusOf i rest
    sent := v.sent ++ refused.flatMap fun p => [.response p.1.tag p.2.status [], .credit 1] }

/-- The REFUSED reports of one check (R61). -/
def State.refusalReports (t : State) (i : Initiator) (v : PortView) : List Report :=
  (t.refusedFront i v.queue).map fun p => { event := .refused, initiator := i, qualifier := p.2.qualifier }

/-- The check reports BUDGET_WAIT (R57): the head it leaves waits for BUDGET, and either it did not before or it is a new head. -/
def State.entersBudgetWait (t : State) (i : Initiator) (v : PortView) : Bool :=
  (t.afterCheck i v).status = .waiting .budget && (v.status ≠ .waiting .budget || !(t.refusedFront i v.queue).isEmpty)

/-- The heads were checked, or not (`did`), on the way from `s` to `t`, each port standing as `v` says as its check began: every present
head is checked against the state as it then stands, the ports without a head are left, and the monitor takes the reports `rs` of the
event and those of the refusals. -/
abbrev State.Checks (s t : State) (did : Bool) (v : Initiator → PortView) (rs : List Report := []) : Prop :=
  let checked : Initiator → Bool := fun i => did && (v i).status ≠ .noHead
  (∀ i : Initiator, t.view i = if checked i then t.afterCheck i (v i) else v i) ∧
  t.flag .budgetWait = (s.flag .budgetWait || initiators.any fun i => checked i && t.entersBudgetWait i (v i)) ∧
  s.Counts t (rs ++ initiators.flatMap fun i => if checked i then t.refusalReports i (v i) else [])

/-! ### The adds of one report or one tick (R162, R163, R164) -/

/-- The monitor took one add for each counter, with its new EDGE memory, and the binning of a latency, each an event of its own, in
SOME order: what comes before an overflow that freezes the bank lands whole, that overflow's own add included, and what comes after it
is dropped. -/
abbrev State.AddsInSomeOrder (s t : State) (amount : CounterIdx → Nat) (memory : CounterIdx → EdgeMemory)
    (latency : Option (Initiator × Tick)) : Prop :=
  let past : CounterIdx → Bool := fun c => 2 ^ 32 ≤ (s.counter c).value.toNat + amount c
  let freezes : Option CounterIdx → Bool := fun k => k.any fun c => past c && (s.counter c).control.freezeOnOverflow
  s.Frame t (Piece.ofSample ++ initiators.map .bins) ∧
  t.monitor.bank = (if (List.finRange 6).any (fun c => freezes (some c)) then .frozen else .running) ∧
  ∃ order : List (Option CounterIdx), order.Perm monitorItems ∧
    (let lands : Option CounterIdx → Bool := fun k => !((order.takeWhile (· ≠ k)).any freezes)
     (∀ c : CounterIdx, t.counter c =
       if lands (some c) then
         { s.counter c with value := (s.counter c).value + BitVec.ofNat 32 (amount c)
                            overflow := (s.counter c).overflow || past c, edgeMemory := memory c }
       else s.counter c) ∧
     t.flag .counterOvf = (s.flag .counterOvf ||
       (List.finRange 6).any fun c => lands (some c) && past c && (s.counter c).control.overflowInterrupt) ∧
     (∀ i : Initiator, ∀ k : Fin 8, t.monitor.bins[i][k] =
       if lands none && latency.any (fun p => p.1 = i && k.val = binOf s.monitor.edges p.2.toNat) then
         min 65535 (s.monitor.bins[i][k] + 1)
       else s.monitor.bins[i][k]))

/-- Bin `k` is the one R169 gives for a latency: every edge below the bin is reached and none from the bin on. -/
abbrev inBin (edges : Vector Nat 7) (latency : Nat) (k : Fin 8) : Prop :=
  (∀ j : Fin 7, j.val < k.val → edges[j] ≤ latency) ∧ (∀ j : Fin 7, k.val ≤ j.val → latency < edges[j])

/-- The REFUSED report of a request answered ERR_REFUSED (R44, R158). -/
def refusedReport (i : Initiator) : Report := { event := .refused, initiator := i, qualifier := 4 }

end Sys2Proof.Machine
end

