-- ==== Sys2Proof/Certificates/Slice0/Obligations.lean ====
section
/-!
DEFINITION. The statements for the provers. Each says what its commands DO when they complete: the next state of `exec`, piece by
piece, and by `State.Frame` that nothing else changes. They are stated with RST_N high; `DeviceResetValues` says what each command does while
it is low. Invariants are stated of every state that keeps them, not only of runs.
-/

open Sys2Proof Sys2Proof.Machine

/-! ### The machine -/

/-- A step takes the command at the front of the queue and is that command's `exec` on the rest (the queue is the model's own, log
entry 6). -/
def Obligations.StepTakesFrontCommand : Prop :=
  ∀ (s : State) (c : Instr) (rest : List Instr),
    s.pending = c :: rest → step s = exec c { s with pending := rest }

/-- R121 on an empty queue (the model's choice, log entry 2): one REFCLK period passes, and the period that completes the division is
a TICK. While RST_N is low the timebase does not count (R195). -/
def Obligations.IdleStepCountsRefclk : Prop :=
  ∀ (s : State), s.pending = [] →
    (s.rstN = true →
      (s.timebase.progress + 1 < s.timebase.prescaler →
        ∃ t, step s = .next t ∧ t.timebase.progress = s.timebase.progress + 1 ∧ s.Frame t [.progress]) ∧
      (s.timebase.prescaler ≤ s.timebase.progress + 1 → step s = exec .tick s)) ∧
    (s.rstN = false → step s = .next s)

/-- Every command completes in every state, and leaves the commands that wait as they are (log entry 6). -/
def Obligations.EveryCommandCompletes : Prop :=
  ∀ (c : Instr) (s : State), ∃ t, exec c s = .next t ∧ t.pending = s.pending

/-- R195: when RST_N goes low, and again when it goes high, every block holds the values its chapter gives (R27, R48, R67, R82, R95, R120,
R135, R153, R173, R184), and no message is sent. While it is low no other command has any effect: bus accesses are ignored, arriving
messages are lost, no tick occurs, nothing is sent; and INT_N is released. DEVICE_RESET as one change of the pin's level is the model's
choice (log entry 12), and so is that the messages already sent and the waiting commands stay (log entry 5). -/
def Obligations.DeviceResetValues : Prop :=
  ∀ (s : State),
    (s.rstN = false → s.intLow = false ∧ ∀ c : Instr, c ≠ .deviceReset → exec c s = .next s) ∧
    (∃ t, exec .deviceReset s = .next t ∧ t.rstN = !s.rstN ∧ t.pending = s.pending ∧ t.links = s.links ∧
      (∀ x : EntryIdx, t.entry x = none) ∧ t.freeCount = 64 ∧ t.detachedCount = 0 ∧
      (∀ i : Initiator, t.port i = { state := .disabled, granted := 0, queue := [] } ∧ t.head i = .noHead ∧
        t.profile i = { cls := .normal, mode := .free, budget := 0, carryLimit := 0, reserved := 4, cap := 64, deadline := 0 } ∧
        t.remaining i = 0 ∧ t.inUse i = 0 ∧ t.outstanding i = 0 ∧ ∀ k : Fin 8, t.monitor.bins[i][k] = 0) ∧
      t.admission.highPointer = 3 ∧ t.admission.normalPointer = 3 ∧
      (∀ w : WindowIdx, t.windows[w] = { enabled := false, baseLine := 0, limitLine := 0, remapLine := 0, ordering := .ordered,
                                         rights := #v[.none, .none, .none, .none] }) ∧
      t.regulation.period = 0 ∧ t.regulation.timer = none ∧
      t.target = { state := .offline, credits := 0, highQueue := [], normalQueue := [], consecutiveHigh := 0, resyncTimer := none,
                   resyncWait := 4096, detachLimit := 16 } ∧
      t.timebase = { prescaler := 100, progress := 0, count := 0, highHolding := 0 } ∧
      (∀ c : CounterIdx, t.counter c =
        { value := 0, overflow := false, edgeMemory := .below, readHolding := 0, writeHolding := 0
          control := { enable := false, event := 0, mode := 0, qualifier := 0, mask := 0, overflowInterrupt := false,
                       freezeOnOverflow := false, threshold := 0 } }) ∧
      t.monitor.bank = .running ∧ t.monitor.edges = #v[16, 32, 64, 128, 256, 512, 1024] ∧
      t.faultLog = [] ∧ (∀ c : Cause, t.flag c = false) ∧ t.interrupts.enables = 0 ∧ t.intLow = false ∧
      t.management.argument = 0 ∧ t.management.command = 0 ∧ t.management.status = .done ∧ (∀ k : Fin 8, t.staged k = 0) ∧
      t.sampleOwed = false ∧ t.readWord 0xA8 = 0 ∧ (∀ a : BitVec 8, 0x20 ≤ a.toNat → a.toNat ≤ 0x34 → t.readWord a = 0))

/-! ### Messages from an initiator (chapter 2) -/

/-- R41, steps 1, 3 and 5, and R42: a REQUEST at a DISABLED port, or with granted count 0, is discarded and only CREDIT_OVERRUN handed; one
whose tag is bound to a live entry of its initiator, or to a queued request, is discarded without an answer, its credit returned, and
DUP_TAG handed. -/
def Obligations.RequestIsDiscarded : Prop :=
  ∀ (i : Initiator) (r : Request) (s : State), s.rstN = true →
    ((s.port i).state = .disabled ∨ (((s.port i).state = .active ∨ (s.port i).state = .draining) ∧ (s.port i).granted = 0) →
      ∃ t, exec (.request i r) s = .next t ∧
        s.HandsFault t { kind := .creditOverrun, source := .initiator i, tag := some r.tag, address := some r.address } ∧
        s.Frame t Piece.ofFault) ∧
    ((s.port i).state = .active ∨ (s.port i).state = .draining → (s.port i).granted ≠ 0 →
      (∃ x : EntryIdx, ∃ e ∈ s.entry x, e.initiator = i ∧ e.phase.live = true ∧ e.tag = some r.tag) ∨
        (∃ q ∈ (s.port i).queue, q.tag = r.tag) →
      ∃ t, exec (.request i r) s = .next t ∧
        t.sentTo i = s.sentTo i ++ [.credit 1] ∧
        s.HandsFault t { kind := .dupTag, source := .initiator i, tag := some r.tag, address := some r.address } ∧
        s.Frame t (.link i :: Piece.ofFault))

/-- R41, steps 2, 6 and 7, with R43 and R44: a REQUEST at a FENCED port is answered ERR_REFUSED without credit; a malformed one at an open
port is answered ERR_REFUSED and then credited, and MALFORMED handed; a well-formed one at a DRAINING port is answered ERR_REFUSED
and then credited, whether or not its drain is due. Each is one REFUSED report. -/
def Obligations.RequestRefusedOnArrival : Prop :=
  ∀ (i : Initiator) (r : Request) (s : State), s.rstN = true →
    ((s.port i).state = .fenced →
      ∃ t, exec (.request i r) s = .next t ∧
        t.sentTo i = s.sentTo i ++ [.response r.tag .errRefused []] ∧ s.Counts t [refusedReport i] ∧
        s.Frame t (.link i :: Piece.ofReport)) ∧
    ((s.port i).state = .active ∨ (s.port i).state = .draining → (s.port i).granted ≠ 0 → s.duplicateTag i r.tag = false →
      (r.address.toNat % 8 ≠ 0 ∨ r.beats = 0 ∨ 8 < r.beats ∨ 64 < r.address.toNat % 64 + 8 * r.beats ∨
        (r.op = .write ∧ r.data.length ≠ r.beats) ∨ (r.op = .read ∧ r.data ≠ []) →
        ∃ t, exec (.request i r) s = .next t ∧
          t.sentTo i = s.sentTo i ++ [.response r.tag .errRefused [], .credit 1] ∧
          s.HandsFault t { kind := .malformed, source := .initiator i, tag := some r.tag, address := some r.address } ∧
          s.Counts t [refusedReport i] ∧ s.Frame t (.link i :: (Piece.ofFault ++ Piece.ofReport))) ∧
      ((s.port i).state = .draining → requestMalformed r = false →
        ∃ t, exec (.request i r) s = .next t ∧
          t.sentTo i = s.sentTo i ++ [.response r.tag .errRefused [], .credit 1] ∧ s.Counts t [refusedReport i] ∧
          s.Frame t (.link i :: Piece.ofReport)))

/-- R41, step 8: at an ACTIVE port a REQUEST that passes the checks takes a credit and joins the tail of the ingress queue. Behind
others it waits unexamined; as the first it is the head and is checked at once (R53, R54): its status follows, with BUDGET_WAIT for a
wait for BUDGET (R57), or it is refused, answered and credited (R61). -/
def Obligations.RequestIsQueued : Prop :=
  ∀ (i : Initiator) (r : Request) (s : State), s.rstN = true →
    (s.port i).state = .active → (s.port i).granted ≠ 0 → s.duplicateTag i r.tag = false → requestMalformed r = false →
    ((s.port i).queue ≠ [] →
      ∃ t, exec (.request i r) s = .next t ∧
        (t.port i).queue = (s.port i).queue ++ [r] ∧ (t.port i).granted = (s.port i).granted - 1 ∧
        s.Frame t [.queue i, .granted i]) ∧
    ((s.port i).queue = [] →
      (s.verdict i r = .pass →
        ∃ t, exec (.request i r) s = .next t ∧
          (t.port i).queue = [r] ∧ (t.port i).granted = (s.port i).granted - 1 ∧ t.head i = .eligible ∧
          s.Frame t [.queue i, .granted i, .head i]) ∧
      (∀ w ∈ [WaitReason.target, .halt, .budget, .quota], s.verdict i r = .wait w →
        ∃ t, exec (.request i r) s = .next t ∧
          (t.port i).queue = [r] ∧ (t.port i).granted = (s.port i).granted - 1 ∧ t.head i = .waiting w ∧
          t.flag .budgetWait = (s.flag .budgetWait || decide (w = .budget)) ∧
          s.Frame t [.queue i, .granted i, .head i, .flag .budgetWait]) ∧
      (∀ why ∈ [HeadRefusal.decode, .denied, .target], s.verdict i r = .refuse why →
        ∃ t, exec (.request i r) s = .next t ∧
          t.sentTo i = s.sentTo i ++ [.response r.tag why.status [], .credit 1] ∧ t.head i = .noHead ∧
          s.Counts t [{ event := .refused, initiator := i, qualifier := why.qualifier }] ∧
          s.Frame t (.link i :: .head i :: Piece.ofReport)))

/-- A drain whose last claim is taken and whose notice is not: DRAIN_COMPLETION as an event of its own is the model's choice (log entry 4). A
LINK_RESET or PORT_FENCE of that port finds the drain completed (R145, R148). A REQUEST comes in either order: before the notice it meets
the port DRAINING and the drain stays due (R41), after it FENCED; so do PORT_ENABLE and PORT_DRAIN, before it refused (R150). A traffic reset
before the notice abandons the drain: LINK_RESET and no REVOKE, and DRAIN_DONE not reported (R48, R154). -/
def Obligations.DueDrainComesFirst : Prop :=
  ∀ (p : Initiator) (s : State), s.rstN = true → s.drainDue p = true →
    ∃ u, exec (.drainCompletion p) s = .next u ∧ (u.port p).state = .fenced ∧ u.drainDue p = false ∧
      exec (.linkReset p) s = exec (.linkReset p) u ∧
      (s.management.argument.toNat = p → exec .portFence s = exec .portFence u) ∧
      (∀ r : Request,
        (∃ t, exec (.request p r) s = .next t ∧ (t.port p).state = .draining ∧ t.drainDue p = true) ∧
        (∃ t, exec (.request p r) u = .next t ∧ (t.port p).state = .fenced ∧
          t.sentTo p = u.sentTo p ++ [.response r.tag .errRefused []])) ∧
      (s.management.argument.toNat = p → ∀ c ∈ [Instr.portEnable, .portDrain],
        ∃ t, exec c s = .next t ∧ t.management.status = .refusedState ∧ t.drainDue p = true) ∧
      (∃ t, exec .trafficReset s = .next t ∧ (t.port p).state = .disabled ∧ t.drainDue p = false ∧
        t.sentTo p = s.sentTo p ++ [.linkReset] ∧ t.flag (.drainDone p) = s.flag (.drainDone p))

/-- R147 and R20: a LINK_RESET in ACTIVE, FENCED, or DRAINING with something outstanding (`DueDrainComesFirst` has the other case, R148),
closes the port to FENCED, discards its queue, frees or detaches the initiator's live entries with cause LINK_RESET, and sends the
initiator nothing; PORT_RESET is set and a LINK_RESET record handed. The detached count reaches the target port with the claim (R116), and
the other heads are checked again when the claim freed an entry or changed the target state (R60). What the claim leaves of the tracker
and the issue queues is exact where the tracker kept its laws (R9, R10). -/
def Obligations.LinkResetClosesPort : Prop :=
  ∀ (i : Initiator) (s : State), s.rstN = true → s.openPort i = true ∨ (s.port i).state = .fenced →
    ∃ t, exec (.linkReset i) s = .next t ∧
      t.port i = { state := .fenced, granted := 0, queue := [] } ∧ t.head i = .noHead ∧ t.sentTo i = s.sentTo i ∧
      t.flag (.portReset i) = true ∧ s.HandsFault t { kind := .linkReset, source := .initiator i } ∧
      (∀ x : EntryIdx, s.settledBy t (fun e => e.initiator = i) .linkReset x = true) ∧
      (s.TrackerLaws → s.SettlesLive t (fun e => e.initiator = i) .linkReset) ∧ s.TakesDetachedCount t ∧
      s.Checks t (s.startsRecheck t) (fun j =>
        if j = i then { queue := [], granted := 0, status := .noHead, sent := s.sentTo i } else s.view j) ∧
      s.Frame t ([.portState i, .granted i, .queue i, .head i, .flag (.portReset i)] ++ Piece.ofClaim ++ Piece.ofFault ++
        Piece.ofNotices)

/-- R149: in DISABLED a LINK_RESET is discarded and its record handed; nothing else changes, PORT_RESET included. -/
def Obligations.LinkResetAtDisabledPort : Prop :=
  ∀ (i : Initiator) (s : State), s.rstN = true → (s.port i).state = .disabled →
    ∃ t, exec (.linkReset i) s = .next t ∧
      s.HandsFault t { kind := .linkReset, source := .initiator i } ∧ s.Frame t Piece.ofFault

/-- R31: a message of a kind not defined for the direction it arrives in is that command, on either link; it is discarded, and only a
record without optional fields is handed: MALFORMED from an initiator, BAD_RESPONSE from the target. -/
def Obligations.UndefinedKindIsDiscarded : Prop :=
  (∀ (i : Initiator) (k : Nat) (s : State), s.rstN = true →
    ∃ t, exec (.undefinedKindMessage (.initiator i) k) s = .next t ∧
      s.HandsFault t { kind := .malformed, source := .initiator i } ∧ s.Frame t Piece.ofFault) ∧
  (∀ (k : Nat) (s : State), s.rstN = true →
    ∃ t, exec (.undefinedKindMessage .target k) s = .next t ∧
      s.HandsFault t { kind := .badResponse, source := .target } ∧ s.Frame t Piece.ofFault) ∧
  (∀ (k : Fin 16) (rest : List Bool),
    (∀ (i : Initiator) (d : List WriteBeat), (Link.initiator i).definesKind k = false →
      FromInitiator.command { header := fieldBits 4 k ++ rest, records := d } i = some (.undefinedKindMessage (.initiator i) k)) ∧
    (∀ d : List DataBeat, Link.target.definesKind k = false →
      FromTarget.command { header := fieldBits 4 k ++ rest, records := d } = some (.undefinedKindMessage .target k)))

/-- R30: the header an arriving message carries and the command it is agree. Every well-formed command of an initiator link, put on
the wire by its fields most significant bit first, is read back as itself, and so for the target link. And R33 and R36: the headers the
part sends, field by field, kind and status by their codes and each field at its width. (The 7 bits of a count are log entry 9.) -/
def Obligations.ArrivingMessageReadsBack : Prop :=
  (∀ (c : Instr), c.wellFormed = true →
    (∀ (i : Initiator) (m : FromInitiator), initiatorMessage c = some m →
      (∃ r, c = .request i r) ∨ c = .linkReset i ∨ (∃ k, c = .undefinedKindMessage (.initiator i) k) → m.command i = some c) ∧
    (∀ m : FromTarget, targetMessage c = some m → m.command = some c)) ∧
  (let field : List Bool → Nat → Nat → Nat := fun h place width => bitsValue ((h.drop place).take width)
   (∀ (g : Tag) (st : Status) (data : List DataBeat), data.length ≤ 8 →
     (let h := (ToInitiator.response g st data).header
      h.length = 15 ∧ field h 0 4 = 3 ∧ field h 4 4 = g ∧ field h 11 4 = data.length ∧
      field h 8 3 = [Status.okay, .errTarget, .errTimeout, .errDecode, .errDenied, .errRefused].idxOf st)) ∧
   (∀ n : Nat, n < 128 →
     (let h := (ToInitiator.credit n).header
      h.length = 11 ∧ field h 0 4 = 4 ∧ field h 4 7 = n)) ∧
   (∀ (x : EntryIdx) (op : Op) (beats : Nat) (a : Addr) (data : List WriteBeat), beats < 16 →
     (let h := (ToTarget.request x op beats a data).header
      h.length = 47 ∧ field h 0 4 = 1 ∧ field h 4 6 = x ∧ field h 10 1 = (if op = .write then 1 else 0) ∧ field h 11 4 = beats ∧
      field h 15 32 = a.toNat)) ∧
   (∀ row ∈ [(ToInitiator.revoke.header, 5), (ToInitiator.linkReset.header, 2), (ToTarget.resync.header, 6),
       (ToTarget.linkReset.header, 2)], row.1.length = 4 ∧ field row.1 0 4 = row.2))

/-! ### Messages from the target (chapters 2 and 6) -/

/-- R103 and R104: a RESPONSE for an ISSUED entry completes it. The initiator is answered OKAY, with the data of a READ, only for a
well-formed OKAY, and ERR_TARGET otherwise; the entry is freed and the heads are checked again (R60); its latency is binned (R169, R170)
and one COMPLETED report made; a RESPONSE that is not well-formed hands BAD_RESPONSE. What the freeing leaves
of every other entry and of the issue queues is exact where the tracker kept its laws (R9, R10). -/
def Obligations.ResponseCompletes : Prop :=
  ∀ (r : Response) (s : State) (e : Entry) (g : Tag), s.rstN = true →
    s.target.state ≠ .resyncing → s.entry r.tag = some e → e.phase = .issued → e.tag = some g →
    ∃ t, exec (.targetResponse r) s = .next t ∧
      (let wf : Bool := r.dataCount = r.data.length ∧ r.data.length ≤ 8 ∧
          r.data.length = if e.op = .read ∧ r.status = .okay then e.beats else 0
       let good : Bool := wf ∧ r.status = .okay
       s.Checks t true (s.viewAfter fun i => if i = e.initiator then
           [.response g (if good then .okay else .errTarget) (if good ∧ e.op = .read then r.data else [])] else [])
         [{ event := .completed, initiator := e.initiator, qualifier := if good then 1 else 2 }] ∧
       (if wf then Piece.faultLog.same s t = true ∧ Piece.same s t (.flag .fault) = true ∧ Piece.same s t (.flag .faultLost) = true
        else s.HandsFault t { kind := .badResponse, source := .target, tag := some g, entry := some r.tag,
                              address := some e.targetAddress }) ∧
       (s.monitor.mayFreeze = false → edgesValid s.monitor.edges = true → ∀ k : Fin 8,
          t.monitor.bins[e.initiator][k] =
            if s.monitor.bank = .running ∧ inBin s.monitor.edges (s.timebase.count - e.admissionTick).toNat k then
              min 65535 (s.monitor.bins[e.initiator][k] + 1)
            else s.monitor.bins[e.initiator][k])) ∧
      t.entry r.tag = none ∧ (∀ y : EntryIdx, y ≠ r.tag → s.entryKept t y = true) ∧
      (s.TrackerLaws → s.Settles t fun x => x = r.tag) ∧
      s.Frame t (.bins e.initiator :: (Piece.ofClaim ++ Piece.ofRecheck ++ Piece.ofFault))

/-- R105 and R14: a RESPONSE for a DETACHED entry is late, whatever it carries: the entry is freed, nobody is answered for it (each link is
sent what the check of its head sends, and nothing else), LATE_RESPONSE with its target address and cause is handed, and one LATE
report made. The detached count reaches the target port with the claim (R116). What the freeing leaves of every other entry and of the
issue queues is exact where the tracker kept its laws (R9, R10). -/
def Obligations.LateResponseEndsQuarantine : Prop :=
  ∀ (r : Response) (s : State) (e : Entry) (c : DetachCause), s.rstN = true →
    s.target.state ≠ .resyncing → s.entry r.tag = some e → e.phase = .detached c →
    ∃ t, exec (.targetResponse r) s = .next t ∧
      t.entry r.tag = none ∧ (∀ y : EntryIdx, y ≠ r.tag → s.entryKept t y = true) ∧
      (s.TrackerLaws → s.Settles t fun x => x = r.tag) ∧
      s.HandsFault t { kind := .lateResponse, source := .target, entry := some r.tag, address := some e.targetAddress,
                       cause := some c } ∧
      s.TakesDetachedCount t ∧ s.Checks t true s.view [{ event := .late, initiator := e.initiator }] ∧
      s.Frame t (Piece.ofClaim ++ Piece.ofNotices ++ Piece.ofFault)

/-- R106: a RESPONSE whose tag names a FREE, WAITING or READY entry is stray: STRAY_RESPONSE with the entry is handed, and nothing
else changes, the monitor included. -/
def Obligations.StrayResponseIsDiscarded : Prop :=
  ∀ (r : Response) (s : State), s.rstN = true →
    s.target.state ≠ .resyncing → (∀ e ∈ s.entry r.tag, e.phase = .waiting ∨ e.phase = .ready) →
    ∃ t, exec (.targetResponse r) s = .next t ∧
      s.HandsFault t { kind := .strayResponse, source := .target, entry := some r.tag } ∧ s.Frame t Piece.ofFault

/-- R101 and R102: in ONLINE and SUSPECT a CREDIT adds its count, held at 64 with TARGET_CREDIT_OVERFLOW handed; in OFFLINE and RESYNCING
it is discarded. In RESYNCING a RESPONSE is discarded too. -/
def Obligations.TargetCreditsAdd : Prop :=
  ∀ (n : Nat) (s : State), s.rstN = true →
    (s.target.state = .online ∨ s.target.state = .suspect →
      ∃ t, exec (.targetCredit n) s = .next t ∧
        t.target.credits = min 64 (s.target.credits + n) ∧
        (s.target.credits + n ≤ 64 → s.Frame t [.credits]) ∧
        (64 < s.target.credits + n →
          s.HandsFault t { kind := .targetCreditOverflow, source := .target } ∧ s.Frame t (.credits :: Piece.ofFault))) ∧
    (s.target.state = .offline ∨ s.target.state = .resyncing → exec (.targetCredit n) s = .next s) ∧
    (∀ r : Response, s.target.state = .resyncing → exec (.targetResponse r) s = .next s)

/-- R111 and R23, and R115 in RESYNCING: the acknowledgement frees every DETACHED entry without an answer (each link is sent what the check
of its head sends, and nothing else), sets the credits within their bounds, stops the timer, brings the target ONLINE, and heads are
checked again; what the freeing leaves of every other entry and of the issue queues is exact where the tracker kept its laws (R9, R10). A
RESYNC_ACK outside RESYNCING, and a RESET_NOTICE in OFFLINE, is discarded and
UNEXPECTED_ACK handed. -/
def Obligations.AcknowledgementByTargetState : Prop :=
  ∀ (n : Nat) (s : State), s.rstN = true →
    (s.target.state = .resyncing → ∀ c ∈ [Instr.resyncAck n, .resetNotice n],
      ∃ t, exec c s = .next t ∧
        t.target.state = .online ∧ t.target.credits = min 64 n ∧ t.target.consecutiveHigh = 0 ∧ t.target.resyncTimer = none ∧
        t.flag .targetState = true ∧ t.detachedCount = 0 ∧
        (∀ x : EntryIdx, if ∃ e ∈ s.entry x, e.phase.isDetached = true then t.entry x = none else s.entryKept t x = true) ∧
        (s.TrackerLaws → s.Settles t fun x => (s.entry x).any fun e => e.phase.isDetached) ∧
        (64 < n → s.HandsFault t { kind := .targetCreditOverflow, source := .target }) ∧ s.Checks t true s.view ∧
        s.Frame t ([.targetState, .credits, .consecutiveHigh, .resyncTimer, .flag .targetState] ++ Piece.ofClaim ++
          Piece.ofRecheck ++ if 64 < n then Piece.ofFault else [])) ∧
    (s.target.state ≠ .resyncing →
      ∃ t, exec (.resyncAck n) s = .next t ∧
        s.HandsFault t { kind := .unexpectedAck, source := .target } ∧ s.Frame t Piece.ofFault) ∧
    (s.target.state = .offline →
      ∃ t, exec (.resetNotice n) s = .next t ∧
        s.HandsFault t { kind := .unexpectedAck, source := .target } ∧ s.Frame t Piece.ofFault)

/-- R115 and R24 in ONLINE or SUSPECT: RESET_NOTICE answers every ISSUED entry ERR_TARGET, in ascending index, and frees it; it frees every
DETACHED entry silently (no link is sent more than these answers and what the check of its head sends); WAITING and READY entries stay;
the credits are set and the target is ONLINE, with TARGET_STATE reported in ONLINE too, and heads are checked again. What the freeing
leaves of every other entry and of the issue queues is exact where the tracker kept its laws (R9, R10). -/
def Obligations.ResetNoticeRestartsTarget : Prop :=
  ∀ (n : Nat) (s : State), s.rstN = true → s.target.state = .online ∨ s.target.state = .suspect →
    ∃ t, exec (.resetNotice n) s = .next t ∧
      t.target.state = .online ∧ t.target.credits = min 64 n ∧ t.target.consecutiveHigh = 0 ∧ t.target.resyncTimer = none ∧
      t.flag .targetState = true ∧ t.detachedCount = 0 ∧
      (∀ x : EntryIdx, if ∃ e ∈ s.entry x, e.phase = .issued ∨ e.phase.isDetached = true then t.entry x = none
        else s.entryKept t x = true) ∧
      (s.TrackerLaws → s.Settles t fun x => (s.entry x).any fun e => e.phase = .issued || e.phase.isDetached) ∧
      s.Checks t true (s.viewAfter fun i => s.answersTo i (fun e => e.phase = .issued) .errTarget) ∧
      (64 < n → s.HandsFault t { kind := .targetCreditOverflow, source := .target }) ∧
      s.Frame t ([.targetState, .credits, .consecutiveHigh, .resyncTimer, .flag .targetState] ++ Piece.ofClaim ++ Piece.ofRecheck ++
        if 64 < n then Piece.ofFault else [])

/-! ### The part's own events -/

/-- R121, R86, R112, R159 and R161: a TICK adds 1 to the count modulo 2^32, begins the division again, adds 1 to a RUNNING period timer and
takes 1 from a RUNNING resync wait, and every counter takes its sample of the state as it stands. The last tick of a timer is its expiry:
it is due, and the timer keeps its count for that event, taken whole on its own (log entry 3). Where the tick starts an expiry of its
own, the monitor takes it either now or after (R159; the choice is a free value, log entry 3). Stated where nothing of an earlier tick
is still due or owed. -/
def Obligations.TickCountsAndSamples : Prop :=
  ∀ (s : State), s.rstN = true → s.sampleOwed = false →
    (∀ x : EntryIdx, ∀ e ∈ s.entry x, e.phase.live = true → e.expiryTick ≠ some s.timebase.count) →
    (∀ n ∈ s.regulation.timer, n.expiryDue = false) →
    ¬(s.target.state = .resyncing ∧ ∃ n ∈ s.target.resyncTimer, n.expiryDue = true) →
    ∃ t, exec .tick s = .next t ∧
      t.timebase.count = s.timebase.count + 1 ∧ t.timebase.progress = 0 ∧
      t.regulation.timer = (s.regulation.timer.map fun n =>
        if n.ticks + 1 < s.regulation.period then { n with ticks := n.ticks + 1 } else { n with expiryDue := true }) ∧
      t.target.resyncTimer = (s.target.resyncTimer.map fun n =>
        if 1 < n.ticks then { n with ticks := n.ticks - 1 } else { n with expiryDue := true }) ∧
      (let sampled : Prop :=
         t.sampleOwed = false ∧
         (s.monitor.mayFreeze = false → s.monitor.bank = .running → ∀ c : CounterIdx, ∀ e m,
           (s.counter c).control.counting = some (e, m) → e.sampled = true →
           (let v := s.sampleValue (s.counter c).control e
            let reached : Bool := (s.counter c).control.threshold.toNat ≤ v
            (t.counter c).value = (s.counter c).value + BitVec.ofNat 32 (match m with
              | .count => if 0 < v then 1 else 0
              | .accumulate => v
              | .threshold => if reached then 1 else 0
              | .edge => if reached ∧ (s.counter c).edgeMemory = .below then 1 else 0) ∧
            (t.counter c).edgeMemory =
              if m = .edge then (if reached then .atOrAbove else .below) else (s.counter c).edgeMemory)) ∧
         (∀ c : CounterIdx, (s.monitor.bank = .frozen ∨ (s.counter c).control.counting = none ∨
             ∃ e m, (s.counter c).control.counting = some (e, m) ∧ e.sampled = false) → t.counter c = s.counter c) ∧
         s.Frame t ([.count, .progress, .periodTimer, .resyncTimer] ++ Piece.ofSample)
       let started : Prop :=
         (∃ x : EntryIdx, ∃ e ∈ s.entry x, e.phase.live = true ∧ e.expiryTick = some (s.timebase.count + 1)) ∨
         (∃ n ∈ s.regulation.timer, s.regulation.period ≤ n.ticks + 1) ∨
         (s.target.state = .resyncing ∧ ∃ n ∈ s.target.resyncTimer, n.ticks ≤ 1)
       (¬started → sampled) ∧
       (started → sampled ∨
         (t.sampleOwed = true ∧ s.Frame t [.count, .progress, .periodTimer, .resyncTimer, .sampleOwed])))

/-- What an earlier tick made due and nothing has taken is taken before the next tick: the expiry claim, then the period expiry, then
the resync wait expiry, and the sample it owes. This order is the model's choice (log entry 3). Where the monitor owes its sample, an
expiry does what it does where none is owed, and the sample is of the state behind it (R159): at once when no expiry of the tick is
left, and otherwise then or later, as the free value decides (log entry 3). -/
def Obligations.TickSettlesWhatIsDue : Prop :=
  ∀ (s : State), s.rstN = true →
    (∃ a b d, exec .expiryClaim s = .next a ∧ exec .periodExpiry a = .next b ∧
      exec .resyncWaitExpiry b = .next d ∧ d.sampleOwed = false ∧ exec .tick s = exec .tick d) ∧
    (s.sampleOwed = true → ∀ c ∈ [Instr.expiryClaim, .periodExpiry, .resyncWaitExpiry],
      ∃ u t, exec c { s with sampleOwed := false } = .next u ∧ exec c s = .next t ∧
        (let left : Prop :=
           (∃ x : EntryIdx, ∃ e ∈ u.entry x, e.phase.live = true ∧ e.expiryTick = some u.timebase.count) ∨
           (∃ n ∈ u.regulation.timer, n.expiryDue = true) ∨
           (u.target.state = .resyncing ∧ ∃ n ∈ u.target.resyncTimer, n.expiryDue = true)
         (¬left → t = u.sampleAll) ∧
         (left → ∃ n : Nat,
           t = State.sampleAll { u with choices := n } ∨ t = { u with sampleOwed := true, choices := n })))

/-- R18, R127 to R130: the expiry claim takes every live entry whose expiry tick is the count. A WAITING or READY one is freed, an ISSUED
one detached with cause TIMEOUT; each initiator is sent ERR_TIMEOUT in ascending entry index; the TIMEOUT records follow in the same
order, as far as the log has room, and one TIMED_OUT report for each. A record carries the state the claim found the entry in as its turn
came: ISSUED exactly for an ISSUED entry, and READY also for a WAITING one whose predecessors the claim has freed before it. With none
named nothing happens. The detached count reaches the target port with the claim (R116), and heads are checked again when the claim
freed an entry or changed the target state (R60). What the claim leaves of the tracker and the issue queues is exact where the tracker
kept its laws (R9, R10). Stated where the monitor owes no sample; `TickSettlesWhatIsDue` has the other case. -/
def Obligations.ExpiryClaimTimesOut : Prop :=
  ∀ (s : State), s.rstN = true → s.sampleOwed = false →
    (let named : Entry → Bool := fun e => e.expiryTick = some s.timebase.count
     let freed : EntryIdx → Bool := fun p => (s.entry p).any fun f => named f && f.phase.live && f.phase ≠ .issued
     let records : (EntryIdx → Entry → ExpiryState) → List FaultReport := fun found =>
       entryIndices.filterMap fun x => (s.entry x).bind fun e =>
         if named e && e.phase.live then
           some { kind := .timeout, source := .initiator e.initiator, tag := e.tag, entry := some x
                  address := some e.requestAddress, expiryState := some (found x e) }
         else none
     let stored : (EntryIdx → Entry → ExpiryState) → List (FaultReport × Tick) := fun found =>
       ((records found).take (16 - s.faultLog.length)).map fun r => (r, s.timebase.count)
     let issuedOr : ExpiryState → ExpiryState := fun k => if k = .issued then .issued else .ready
     let count : Nat := (records fun _ _ => .ready).length
     ((count = 0 → exec .expiryClaim s = .next s) ∧
      ∃ t, exec .expiryClaim s = .next t ∧
       (∀ x : EntryIdx, s.settledBy t named .timeout x = true) ∧ (s.TrackerLaws → s.SettlesLive t named .timeout) ∧
       s.TakesDetachedCount t ∧
       s.faultLog <+: t.faultLog ∧
       (let new : List (FaultReport × Tick) := (t.faultLog.drop s.faultLog.length).map fun f => (f.report, f.tick)
        new.map (fun f => ({ f.1 with expiryState := f.1.expiryState.map issuedOr }, f.2)) =
          stored (fun _ e => if e.phase = .issued then .issued else .ready) ∧
        (s.TrackerLaws → new = stored fun x e =>
          if e.phase = .issued then .issued
          else if e.phase = .ready ∨ (e.predecessors.all fun p => p < x && freed p) = true then .ready
          else .waiting)) ∧
       t.flag .fault = (s.flag .fault || decide (s.faultLog.length < 16 ∧ count ≠ 0)) ∧
       t.flag .faultLost = (s.flag .faultLost || decide (16 < s.faultLog.length + count ∧ count ≠ 0)) ∧
       s.Checks t (s.startsRecheck t) (s.viewAfter fun i => s.answersTo i named .errTimeout)
         (entryIndices.filterMap fun x => (s.entry x).bind fun e =>
           if named e && e.phase.live then
             some { event := .timedOut, initiator := e.initiator, qualifier := if e.phase = .issued then 2 else 1 }
           else none) ∧
       s.Frame t (Piece.ofClaim ++ Piece.ofNotices ++ Piece.ofFault)))

/-- R86 and R87: at a period expiry the elapsed count returns to 0, every METERED initiator has its budget and what the carry limit lets
over of its remaining budget, and the others keep theirs; heads are checked again when an initiator is METERED, and only then. Before it
is due the event has no effect (log entry 3). Stated where the monitor owes no sample; `TickSettlesWhatIsDue` has the other case. -/
def Obligations.PeriodExpiryRefills : Prop :=
  ∀ (s : State), s.rstN = true → s.sampleOwed = false →
    (∀ n ∈ s.regulation.timer, n.expiryDue = true →
      ∃ t, exec .periodExpiry s = .next t ∧ t.regulation.timer = some { ticks := 0 } ∧
        (∀ i : Initiator, t.remaining i =
          if (s.profile i).mode = .metered then (s.profile i).budget + min (s.remaining i) (s.profile i).carryLimit
          else s.remaining i) ∧
        ((∀ i : Initiator, (s.profile i).mode ≠ .metered) → s.Frame t [.periodTimer]) ∧
        s.Checks t (initiators.any fun i => (s.profile i).mode = .metered) s.view ∧
        s.Frame t (.periodTimer :: (initiators.map .remaining ++ Piece.ofRecheck))) ∧
    ((∀ n ∈ s.regulation.timer, n.expiryDue = false) → exec .periodExpiry s = .next s)

/-- R108, R112 and R21: entry into OFFLINE, by the resync wait expiry or by TARGET_OFFLINE (R109). Every live entry is answered ERR_TARGET
in ascending index and freed or, if ISSUED, detached with cause OFFLINE; credits are 0, the timer is STOPPED, and the issue queues are
empty when the tracker kept its laws, in which case every entry is left exactly as R9 and R15 say; heads are checked again. The expiry
hands RESYNC_TIMEOUT; the command is DONE, or refused in OFFLINE. An expiry that is not due has no effect (log entry 3). The expiry is
stated where the monitor owes no sample; `TickSettlesWhatIsDue` has the other case. -/
def Obligations.TargetGoesOffline : Prop :=
  ∀ (s : State), s.rstN = true →
    (s.sampleOwed = false → s.target.state = .resyncing → (∃ n ∈ s.target.resyncTimer, n.expiryDue = true) →
      ∃ t, exec .resyncWaitExpiry s = .next t ∧ s.HandsFault t { kind := .resyncTimeout, source := .target } ∧
        t.target.state = .offline ∧ t.target.credits = 0 ∧ t.target.resyncTimer = none ∧ t.flag .targetState = true ∧
        (s.TrackerLaws → t.target.highQueue = [] ∧ t.target.normalQueue = []) ∧
        (∀ x : EntryIdx, s.settledBy t (fun _ => true) .offline x = true) ∧ (s.TrackerLaws → s.SettlesLive t (fun _ => true) .offline) ∧
        s.Checks t true (s.viewAfter fun i => s.answersTo i (fun _ => true) .errTarget) ∧
        s.Frame t ([.targetState, .credits, .resyncTimer, .flag .targetState] ++ Piece.ofClaim ++ Piece.ofRecheck ++ Piece.ofFault)) ∧
    (s.sampleOwed = false → ¬(s.target.state = .resyncing ∧ ∃ n ∈ s.target.resyncTimer, n.expiryDue = true) →
      exec .resyncWaitExpiry s = .next s) ∧
    (s.target.state ≠ .offline →
      ∃ t, exec .targetOffline s = .next t ∧ s.Completes t 0x11 .done ∧
        t.target.state = .offline ∧ t.target.credits = 0 ∧ t.target.resyncTimer = none ∧ t.flag .targetState = true ∧
        (s.TrackerLaws → t.target.highQueue = [] ∧ t.target.normalQueue = []) ∧
        (∀ x : EntryIdx, s.settledBy t (fun _ => true) .offline x = true) ∧ (s.TrackerLaws → s.SettlesLive t (fun _ => true) .offline) ∧
        s.Checks t true (s.viewAfter fun i => s.answersTo i (fun _ => true) .errTarget) ∧
        s.Frame t ([.targetState, .credits, .resyncTimer, .flag .targetState] ++ Piece.ofClaim ++ Piece.ofRecheck ++
          Piece.ofCommand)) ∧
    (s.target.state = .offline →
      ∃ t, exec .targetOffline s = .next t ∧ s.Completes t 0x11 .refusedState ∧ s.Frame t Piece.ofCommand)

/-- R62: the winner of a grant is a competing head, ELIGIBLE and passing its checks as the state stands (R63); a NORMAL one only when no HIGH
head competes; and in its class none that competes comes before it, counting from the index after the class's pointer and wrapping
from 3 to 0. -/
def Obligations.GrantWinnerRule : Prop :=
  ∀ (s : State) (i : Initiator),
    (let competes : Initiator → Prop := fun j => s.head j = .eligible ∧ ∃ r ∈ (s.port j).queue.head?, s.verdict j r = .pass
     let pointer : Initiator := if (s.profile i).cls = .high then s.admission.highPointer else s.admission.normalPointer
     (s.grantWinner = some i ↔
       competes i ∧
       ((s.profile i).cls = .normal → ∀ j, competes j → (s.profile j).cls = .normal) ∧
       (∀ j, competes j → (s.profile j).cls = (s.profile i).cls → (i - pointer - 1).val ≤ (j - pointer - 1).val)))

/-- R64, R88, R6, R7, R8 and R46: a grant admits the winner's head `r` into the lowest FREE entry `x` through the window `w` that holds its
line. A METERED initiator is charged the beats; the record is filled, with its expiry tick; its predecessors are the conflicting
entries of its target line, each of which gains it as a successor, or none through an UNORDERED window; with none it is READY at the tail
of its class's queue, else WAITING; the head leaves its queue and its credit is returned; the pointer of the class moves; the next head
of the port and every other head is checked (R53, R60). With no winner no grant is made. -/
def Obligations.GrantAdmitsHead : Prop :=
  ∀ (s : State), s.rstN = true →
    (s.grantWinner = none → exec .grant s = .next s) ∧
    (∀ i ∈ s.grantWinner, ∀ r ∈ (s.port i).queue.head?,
      ∃ (w : WindowIdx) (x : EntryIdx) (t : State),
        s.lookup (lineOf r.address) = some w ∧ s.entry x = none ∧ (∀ y : EntryIdx, y < x → s.entry y ≠ none) ∧
        exec .grant s = .next t ∧
        (let ps : List EntryIdx := if s.windows[w].ordering = .unordered then [] else
           entryIndices.filter fun y => (s.entry y).any fun e =>
             lineOf e.targetAddress = lineOf (s.windows[w].remap r.address) && (e.op = .write || r.op = .write)
         t.entry x = some
           { phase := if ps = [] then .ready else .waiting, initiator := i, tag := some r.tag, op := r.op
             requestAddress := r.address, targetAddress := s.windows[w].remap r.address, beats := r.beats, window := w
             cls := (s.profile i).cls, admissionTick := s.timebase.count
             expiryTick := if (s.profile i).deadline = 0 then none
               else some (s.timebase.count + BitVec.ofNat 32 (s.profile i).deadline)
             writeData := r.data, predecessors := ps, successors := [] } ∧
         (∀ y : EntryIdx, y ≠ x → t.entry y =
           (s.entry y).map fun e => if y ∈ ps then { e with successors := insertAscending x e.successors } else e) ∧
         t.target.highQueue = (if ps = [] ∧ (s.profile i).cls = .high then s.target.highQueue ++ [x] else s.target.highQueue) ∧
         t.target.normalQueue = (if ps = [] ∧ (s.profile i).cls = .normal then s.target.normalQueue ++ [x] else s.target.normalQueue) ∧
         s.Checks t true (fun j =>
             if j = i then
               { queue := (s.port i).queue.tail, granted := (s.port i).granted + 1, status := .eligible
                 sent := s.sentTo i ++ [.credit 1] }
             else s.view j)
           ([{ event := .admitted, initiator := i, qualifier := if r.op = .read then 1 else 2 },
             { event := .beatsAdmitted, initiator := i, qualifier := if r.op = .read then 1 else 2, amount := r.beats }] ++
             if ps = [] then [] else [{ event := .depWait, initiator := i }])) ∧
        t.remaining i = (if (s.profile i).mode = .metered then s.remaining i - r.beats else s.remaining i) ∧
        t.admission.highPointer = (if (s.profile i).cls = .high then i else s.admission.highPointer) ∧
        t.admission.normalPointer = (if (s.profile i).cls = .normal then i else s.admission.normalPointer) ∧
        s.Frame t ([.remaining i, .highPointer, .normalPointer] ++ Piece.ofClaim ++ Piece.ofRecheck))

/-- R99, R100, R12 and R36: in ONLINE or SUSPECT with credit in hand, the head of the HIGH queue is issued, or of the NORMAL queue when
HIGH is empty or its four issues in a row are spent. The entry becomes ISSUED and gives up its write data, its REQUEST goes out under its
index, and one credit and the consecutive-HIGH count move. Otherwise no issue is made. -/
def Obligations.IssueSendsRequest : Prop :=
  (∀ (s : State) (c : Cls) (x : EntryIdx) (e : Entry), s.rstN = true →
    s.target.state = .online ∨ s.target.state = .suspect → 0 < s.target.credits → s.entry x = some e →
    (c = .high ∧ s.target.highQueue.head? = some x ∧ (s.target.normalQueue = [] ∨ s.target.consecutiveHigh < 4)) ∨
      (c = .normal ∧ s.target.normalQueue.head? = some x ∧ (s.target.highQueue = [] ∨ 4 ≤ s.target.consecutiveHigh)) →
    ∃ t, exec .issue s = .next t ∧
      t.entry x = some { e with phase := .issued, writeData := [] } ∧ t.target.credits = s.target.credits - 1 ∧
      t.target.highQueue = (if c = .high then s.target.highQueue.tail else s.target.highQueue) ∧
      t.target.normalQueue = (if c = .normal then s.target.normalQueue.tail else s.target.normalQueue) ∧
      t.target.consecutiveHigh = (if c = .high then min 4 (s.target.consecutiveHigh + 1) else 0) ∧
      t.links.toTarget = s.links.toTarget ++ [.request x e.op e.beats e.targetAddress e.writeData] ∧
      s.Counts t [{ event := .issue, initiator := e.initiator, qualifier := if e.cls = .high then 1 else 2 }] ∧
      s.Frame t ([.entry x, .credits, .highQueue, .normalQueue, .consecutiveHigh, .targetLink] ++ Piece.ofReport)) ∧
  (∀ s : State, s.rstN = true →
    s.target.state = .offline ∨ s.target.state = .resyncing ∨ s.target.credits = 0 ∨
      (s.target.highQueue = [] ∧ s.target.normalQueue = []) → exec .issue s = .next s)

/-- R142: while the port is DRAINING with nothing outstanding, REVOKE is sent, the granted count becomes 0, the port FENCED and DRAIN_DONE
set; in every other case the event changes nothing. That DRAIN_COMPLETION is an event of its own, due while this holds, is the model's
choice (log entry 4). -/
def Obligations.DrainCompletes : Prop :=
  ∀ (p : Initiator) (s : State), s.rstN = true →
    ((s.port p).state = .draining → s.outstanding p = 0 →
      ∃ t, exec (.drainCompletion p) s = .next t ∧
        t.sentTo p = s.sentTo p ++ [.revoke] ∧ (t.port p).granted = 0 ∧ (t.port p).state = .fenced ∧
        t.flag (.drainDone p) = true ∧ s.Frame t [.link p, .granted p, .portState p, .flag (.drainDone p)]) ∧
    ((s.port p).state ≠ .draining ∨ s.outstanding p ≠ 0 → exec (.drainCompletion p) s = .next s)

/-! ### Commands on ports and on the target (chapters 6 and 8) -/

/-- R138: in DISABLED or FENCED PORT_ENABLE sends CREDIT 8, sets the granted count to 8 and makes the port ACTIVE; in ACTIVE or DRAINING it
is refused and changes nothing. -/
def Obligations.PortEnableOpens : Prop :=
  ∀ (p : Initiator) (s : State), s.rstN = true → s.management.argument.toNat = p →
    ((s.port p).state = .disabled ∨ (s.port p).state = .fenced →
      ∃ t, exec .portEnable s = .next t ∧ s.Completes t 0x01 .done ∧
        t.sentTo p = s.sentTo p ++ [.credit 8] ∧ (t.port p).granted = 8 ∧ (t.port p).state = .active ∧
        s.Frame t ([.link p, .granted p, .portState p] ++ Piece.ofCommand)) ∧
    ((s.port p).state = .active ∨ (s.port p).state = .draining →
      ∃ t, exec .portEnable s = .next t ∧ s.Completes t 0x01 .refusedState ∧ s.Frame t Piece.ofCommand)

/-- R140 and R142: PORT_DRAIN at an ACTIVE port answers each queued request ERR_REFUSED, head to tail, each with its credit after it and one
REFUSED report; the port is then DRAINING, or, with nothing outstanding, FENCED at once with REVOKE sent and DRAIN_DONE set. In every
other state it is refused and changes nothing. -/
def Obligations.PortDrainCloses : Prop :=
  ∀ (p : Initiator) (s : State), s.rstN = true → s.management.argument.toNat = p →
    ((s.port p).state = .active →
      ∃ t, exec .portDrain s = .next t ∧ s.Completes t 0x02 .done ∧
        t.sentTo p = s.sentTo p ++ ((s.port p).queue.flatMap fun r => [.response r.tag .errRefused [], .credit 1]) ++
          (if s.outstanding p = 0 then [.revoke] else []) ∧
        t.port p = (if s.outstanding p = 0 then { state := .fenced, granted := 0, queue := [] }
          else { state := .draining, granted := (s.port p).granted + (s.port p).queue.length, queue := [] }) ∧
        t.head p = .noHead ∧ t.flag (.drainDone p) = (s.flag (.drainDone p) || decide (s.outstanding p = 0)) ∧
        s.Counts t ((s.port p).queue.map fun _ => refusedReport p) ∧
        s.Frame t ([.link p, .granted p, .portState p, .queue p, .head p, .flag (.drainDone p)] ++ Piece.ofReport ++
          Piece.ofCommand)) ∧
    ((s.port p).state ≠ .active →
      ∃ t, exec .portDrain s = .next t ∧ s.Completes t 0x02 .refusedState ∧ s.Frame t Piece.ofCommand)

/-- R144 and R19: PORT_FENCE in ACTIVE, or in DRAINING with something outstanding (`DueDrainComesFirst` has the other case, R145), answers
the queue ERR_REFUSED without credit, then the initiator's live entries ERR_REFUSED in ascending index, freed or detached with cause
FENCE, and sends REVOKE last; the port is FENCED and DRAIN_DONE is not reported. Each refused queue place is one REFUSED report. The
detached count reaches the target port with the claim (R116), and the other heads are checked again when the claim freed an entry or
changed the target state (R60). What the claim leaves of the tracker and the issue queues is exact where the tracker kept its laws (R9,
R10). At a closed port it is refused and changes nothing. -/
def Obligations.PortFenceCloses : Prop :=
  ∀ (p : Initiator) (s : State), s.rstN = true → s.management.argument.toNat = p →
    (s.openPort p = true →
      ∃ t, exec .portFence s = .next t ∧ s.Completes t 0x03 .done ∧
        t.port p = { state := .fenced, granted := 0, queue := [] } ∧ t.head p = .noHead ∧
        (∀ x : EntryIdx, s.settledBy t (fun e => e.initiator = p) .fence x = true) ∧
        (s.TrackerLaws → s.SettlesLive t (fun e => e.initiator = p) .fence) ∧ s.TakesDetachedCount t ∧
        s.Checks t (s.startsRecheck t) (fun j =>
            if j = p then
              { queue := [], granted := 0, status := .noHead
                sent := s.sentTo p ++ ((s.port p).queue.map fun r => .response r.tag .errRefused []) ++
                  s.answersTo p (fun e => e.initiator = p) .errRefused ++ [.revoke] }
            else s.view j)
          ((s.port p).queue.map fun _ => refusedReport p) ∧
        s.Frame t ([.portState p, .granted p, .queue p, .head p, .link p] ++ Piece.ofClaim ++ Piece.ofNotices ++ Piece.ofCommand)) ∧
    ((s.port p).state = .disabled ∨ (s.port p).state = .fenced →
      ∃ t, exec .portFence s = .next t ∧ s.Completes t 0x03 .refusedState ∧ s.Frame t Piece.ofCommand)

/-- R110 and R22: TARGET_RESYNC outside RESYNCING answers every ISSUED entry ERR_TARGET in ascending index and detaches it with cause
RESYNC, leaves every other entry and both issue queues as they are, sends RESYNC, starts the wait, and the target is RESYNCING with no
credit; heads are checked again. In RESYNCING it is refused and changes nothing. -/
def Obligations.TargetResyncStarts : Prop :=
  ∀ (s : State), s.rstN = true →
    (s.target.state ≠ .resyncing →
      ∃ t, exec .targetResync s = .next t ∧ s.Completes t 0x10 .done ∧
        t.target.state = .resyncing ∧ t.target.credits = 0 ∧ t.target.resyncTimer = some { ticks := s.target.resyncWait } ∧
        t.links.toTarget = s.links.toTarget ++ [.resync] ∧ t.flag .targetState = true ∧
        (∀ x : EntryIdx, ∀ e ∈ s.entry x, if e.phase = .issued then
          t.entry x = some { e with phase := .detached .resync, tag := none, expiryTick := none, writeData := [] }
          else t.entry x = some e) ∧
        s.Checks t true (s.viewAfter fun i => s.answersTo i (fun e => e.phase = .issued) .errTarget) ∧
        s.Frame t ([.targetState, .credits, .resyncTimer, .targetLink, .flag .targetState] ++
          (entryIndices.filter fun x => (s.entry x).isSome).map .entry ++ Piece.ofRecheck ++ Piece.ofCommand)) ∧
    (s.target.state = .resyncing →
      ∃ t, exec .targetResync s = .next t ∧ s.Completes t 0x10 .refusedState ∧ s.Frame t Piece.ofCommand)

/-! ### Commands on windows, profiles, budgets and edges (chapters 3, 4, 5 and 9) -/

/-- R71, R72 and R188: WRITE_WINDOW refuses a staged record with an undefined code, a line above 67,108,863, a limit below its base or a
remapped range past the top, with INVALID, CONFIG_ERROR and no other change; any other staging area is the image of a record within its
bounds, which becomes record w whole, and heads are checked again. -/
def Obligations.WriteWindowCommits : Prop :=
  ∀ (w : WindowIdx) (s : State), s.rstN = true → s.management.argument.toNat = w →
    (let line : Fin 8 → Fin 8 → Nat := fun hi lo => (s.staged hi).toNat * 65536 + (s.staged lo).toNat
     let bad : Prop := 1 < (s.staged 0).toNat % 256 ∨ 1 < (s.staged 0).toNat / 256 ∨
       3 < (s.staged 1).toNat % 16 ∨ 3 < (s.staged 1).toNat / 16 % 16 ∨ 3 < (s.staged 1).toNat / 256 % 16 ∨
       3 < (s.staged 1).toNat / 4096 ∨
       67108863 < line 3 2 ∨ 67108863 < line 5 4 ∨ 67108863 < line 7 6 ∨ line 5 4 < line 3 2 ∨
       67108863 < line 7 6 + line 5 4 - line 3 2
     (bad → ∃ t, exec .writeWindow s = .next t ∧ s.Completes t 0x20 .invalid ∧ t.flag .configError = true ∧
       s.Frame t (.flag .configError :: Piece.ofCommand)) ∧
     (¬bad → ∃ (v : Window) (t : State), v.withinBounds = true ∧ v.image = s.management.staging ∧
       exec .writeWindow s = .next t ∧ s.Completes t 0x20 .done ∧ t.windows[w] = v ∧ s.Checks t true s.view ∧
       s.Frame t (.window w :: (Piece.ofRecheck ++ Piece.ofCommand))))

/-- R73: READ_WINDOW copies record w into the staging area, laid out as R188 gives, and changes no record; a WRITE_WINDOW of any window v
after it commits that record there as it was read. -/
def Obligations.ReadWindowCopies : Prop :=
  ∀ (w v : WindowIdx) (s : State), s.rstN = true → s.management.argument.toNat = w → s.windows[w].withinBounds = true →
    ∃ t, exec .readWindow s = .next t ∧ s.Completes t 0x21 .done ∧
      (let r := s.windows[w]
       (t.staged 0).toNat = (if r.enabled then 1 else 0) + (if r.ordering = .unordered then 256 else 0) ∧
       (let code : Right → Nat := fun | .none => 0 | .read => 1 | .write => 2 | .readWrite => 3
        (t.staged 1).toNat = code r.rights[0] + 16 * code r.rights[1] + 256 * code r.rights[2] + 4096 * code r.rights[3]) ∧
       (t.staged 3).toNat * 65536 + (t.staged 2).toNat = r.baseLine ∧
       (t.staged 5).toNat * 65536 + (t.staged 4).toNat = r.limitLine ∧
       (t.staged 7).toNat * 65536 + (t.staged 6).toNat = r.remapLine) ∧
      s.Frame t ((List.finRange 8).map .staging ++ Piece.ofCommand) ∧
      ∃ u, exec .writeWindow (t.writeArgument (BitVec.ofNat 16 v)) = .next u ∧ u.management.status = .done ∧
        u.windows[v] = s.windows[w]

/-- R50 and R188: WRITE_PROFILE refuses a staged profile with an undefined class or mode, more than 16 reserved entries, a cap of 0 or
above 64 or below the reserved entries, with INVALID, CONFIG_ERROR and no other change; any other replaces the seven fields of profile i
together, leaves the remaining budget, and heads are checked again. -/
def Obligations.WriteProfileCommits : Prop :=
  ∀ (i : Initiator) (s : State), s.rstN = true → s.management.argument.toNat = i →
    (let bad : Prop := 1 < (s.staged 0).toNat % 256 ∨ 2 < (s.staged 0).toNat / 256 ∨ 16 < (s.staged 3).toNat ∨
       (s.staged 4).toNat = 0 ∨ 64 < (s.staged 4).toNat ∨ (s.staged 4).toNat < (s.staged 3).toNat
     (bad → ∃ t, exec .writeProfile s = .next t ∧ s.Completes t 0x22 .invalid ∧ t.flag .configError = true ∧
       s.Frame t (.flag .configError :: Piece.ofCommand)) ∧
     (¬bad → ∃ t, exec .writeProfile s = .next t ∧ s.Completes t 0x22 .done ∧
       t.profile i =
         { cls := if (s.staged 0).toNat % 256 = 0 then .normal else .high
           mode := if (s.staged 0).toNat / 256 = 0 then .free else if (s.staged 0).toNat / 256 = 1 then .metered else .halted
           budget := (s.staged 1).toNat, carryLimit := (s.staged 2).toNat, reserved := (s.staged 3).toNat
           cap := (s.staged 4).toNat, deadline := (s.staged 5).toNat } ∧
       s.Checks t true s.view ∧ s.Frame t (.profile i :: (Piece.ofRecheck ++ Piece.ofCommand))))

/-- R52 and R188: READ_PROFILE copies profile i and its remaining budget into the staging area; a WRITE_PROFILE after it commits the
profile as it was read. -/
def Obligations.ReadProfileCopies : Prop :=
  ∀ (i : Initiator) (s : State), s.rstN = true → s.management.argument.toNat = i → s.ConfigBounds → s.remaining i ≤ 131070 →
    ∃ t, exec .readProfile s = .next t ∧ s.Completes t 0x23 .done ∧
      (t.staged 0).toNat = (if (s.profile i).cls = .high then 1 else 0) +
        (match (s.profile i).mode with | .free => 0 | .metered => 256 | .halted => 512) ∧
      (t.staged 1).toNat = (s.profile i).budget ∧ (t.staged 2).toNat = (s.profile i).carryLimit ∧
      (t.staged 3).toNat = (s.profile i).reserved ∧ (t.staged 4).toNat = (s.profile i).cap ∧
      (t.staged 5).toNat = (s.profile i).deadline ∧
      (t.staged 7).toNat * 65536 + (t.staged 6).toNat = s.remaining i ∧
      s.Frame t ((List.finRange 8).map .staging ++ Piece.ofCommand) ∧
      ∃ u, exec .writeProfile t = .next u ∧ u.management.status = .done ∧ ∀ j : Initiator, u.profile j = s.profile j

/-- R168: WRITE_EDGES refuses a staged list with a 0 or a value not above the one before it, with INVALID, CONFIG_ERROR and no other
change; any other replaces the seven edges and leaves the bins. -/
def Obligations.WriteEdgesCommits : Prop :=
  ∀ (s : State), s.rstN = true →
    (let bad : Prop := ∃ k : Fin 8, k.val < 7 ∧
       ((s.staged k).toNat = 0 ∨ ∃ j : Fin 8, j.val + 1 = k.val ∧ (s.staged k).toNat ≤ (s.staged j).toNat)
     (bad → ∃ t, exec .writeEdges s = .next t ∧ s.Completes t 0x24 .invalid ∧ t.flag .configError = true ∧
       s.Frame t (.flag .configError :: Piece.ofCommand)) ∧
     (¬bad → ∃ t, exec .writeEdges s = .next t ∧ s.Completes t 0x24 .done ∧
       (∀ k : Fin 7, t.monitor.edges[k] = (s.staged (k.castLE (by decide))).toNat) ∧
       s.Frame t (.edges :: Piece.ofCommand)))

/-- R90: BUDGET_RELOAD sets the remaining budget to the budget in every mode, leaves the period timer, and heads are checked again. -/
def Obligations.BudgetReloadSetsBudget : Prop :=
  ∀ (i : Initiator) (s : State), s.rstN = true → s.management.argument.toNat = i →
    ∃ t, exec .budgetReload s = .next t ∧ s.Completes t 0x30 .done ∧ t.remaining i = (s.profile i).budget ∧
      s.Checks t true s.view ∧ s.Frame t (.remaining i :: (Piece.ofRecheck ++ Piece.ofCommand))

/-! ### Commands on the monitor, the tracker, the fault log and the whole part -/

/-- R165 and R170: HIST_CLEAR clears the eight bins of its initiator; COUNTER_FREEZE and COUNTER_UNFREEZE set the bank state alone;
COUNTER_CLEAR makes every value 0, every overflow flag clear and every EDGE memory BELOW. Each completes DONE in either bank state. -/
def Obligations.MonitorCommands : Prop :=
  ∀ (s : State), s.rstN = true →
    (∀ i : Initiator, s.management.argument.toNat = i →
      ∃ t, exec .histClear s = .next t ∧ s.Completes t 0x40 .done ∧ (∀ k : Fin 8, t.monitor.bins[i][k] = 0) ∧
        s.Frame t (.bins i :: Piece.ofCommand)) ∧
    (∃ t, exec .counterFreeze s = .next t ∧ s.Completes t 0x41 .done ∧ t.monitor.bank = .frozen ∧
      s.Frame t (.bank :: Piece.ofCommand)) ∧
    (∃ t, exec .counterUnfreeze s = .next t ∧ s.Completes t 0x42 .done ∧ t.monitor.bank = .running ∧
      s.Frame t (.bank :: Piece.ofCommand)) ∧
    (∃ t, exec .counterClear s = .next t ∧ s.Completes t 0x43 .done ∧
      (∀ c : CounterIdx, (t.counter c).value = 0 ∧ (t.counter c).overflow = false ∧ (t.counter c).edgeMemory = .below) ∧
      s.Frame t ((List.finRange 6).map .counterValue ++ (List.finRange 6).map .overflow ++ (List.finRange 6).map .edgeMemory ++
        Piece.ofCommand))

/-- R25, R26 and the map of 11.2: TRACKER_SNAPSHOT copies the record of entry x into the inspection registers and changes nothing else. A
FREE entry shows the FREE image; another shows its fields, and of each list its count, its lowest eight indices and whether there are
more. The words at 0x20 to 0x34 show the copy at the map's bit places, an absent field as 0 with its presence bit clear. -/
def Obligations.SnapshotCopiesEntry : Prop :=
  ∀ (x : EntryIdx) (s : State), s.rstN = true → s.management.argument.toNat = x →
    ∃ t, exec .trackerSnapshot s = .next t ∧ s.Completes t 0x50 .done ∧ s.Frame t (.snapshot :: Piece.ofCommand) ∧
      (s.entry x = none → ∀ a : BitVec 8, 0x20 ≤ a.toNat → a.toNat ≤ 0x34 → t.readWord a = 0) ∧
      (∀ e ∈ s.entry x, t.management.snapshot =
        { phase := some e.phase, initiator := e.initiator, tag := e.tag, op := e.op, requestAddress := e.requestAddress
          targetAddress := e.targetAddress, beats := e.beats, window := e.window, cls := e.cls, admissionTick := e.admissionTick
          expiryTick := e.expiryTick, writeDataHeld := e.op = .write && (e.phase = .waiting || e.phase = .ready)
          predecessors := { count := e.predecessors.length, slots := e.predecessors.take 8, overflow := 8 < e.predecessors.length }
          successors := { count := e.successors.length, slots := e.successors.take 8, overflow := 8 < e.successors.length } }) ∧
      (∀ e ∈ s.entry x, s.TrackerLaws → e.beats ≤ 8 →
        (let r : Nat → Nat := fun a => (t.readWord (BitVec.ofNat 8 a)).toNat
         let pair : Nat → Nat := fun a => r (a + 1) * 65536 + r a
         let slot : List EntryIdx → Nat → Nat := fun l j => match l[j]? with | some y => y.val | none => 0
         let held : Bool := e.op = .write ∧ (e.phase = .waiting ∨ e.phase = .ready)
         let cause : Option DetachCause := match e.phase with | .detached c => some c | _ => none
         r 0x20 = (match e.phase with | .waiting => 1 | .ready => 2 | .issued => 3 | .detached _ => 4) + 16 * e.initiator +
           (if e.op = .write then 64 else 0) + (if e.cls = .high then 128 else 0) ∧
         r 0x21 = e.tag.isSome.toNat + 2 * e.expiryTick.isSome.toNat + 4 * cause.isSome.toNat + 8 * held.toNat ∧
         r 0x22 = (match e.tag with | some g => g.val | none => 0) + 16 * e.beats + 256 * e.window +
           4096 * (match cause with
             | none => 0 | some .timeout => 0 | some .fence => 1 | some .linkReset => 2 | some .offline => 3 | some .resync => 4) ∧
         pair 0x23 = e.requestAddress.toNat ∧ pair 0x25 = e.targetAddress.toNat ∧ pair 0x27 = e.admissionTick.toNat ∧
         pair 0x29 = (match e.expiryTick with | some n => n.toNat | none => 0) ∧
         r 0x2B = e.predecessors.length + (if 8 < e.predecessors.length then 32768 else 0) ∧
         r 0x30 = e.successors.length + (if 8 < e.successors.length then 32768 else 0) ∧
         (∀ k : Fin 4,
           r (0x2C + k) = slot e.predecessors (2 * k) + 256 * slot e.predecessors (2 * k + 1) ∧
           r (0x31 + k) = slot e.successors (2 * k) + 256 * slot e.successors (2 * k + 1))))

/-- R179: FAULT_POP removes the head record, leaving FAULT and FAULT_LOST; on an empty log it is refused. -/
def Obligations.FaultPopRemovesHead : Prop :=
  ∀ (s : State), s.rstN = true →
    (∀ (f : FaultRecord) (rest : List FaultRecord), s.faultLog = f :: rest →
      ∃ t, exec .faultPop s = .next t ∧ s.Completes t 0x51 .done ∧ t.faultLog = rest ∧ s.Frame t (.faultLog :: Piece.ofCommand)) ∧
    (s.faultLog = [] → ∃ t, exec .faultPop s = .next t ∧ s.Completes t 0x51 .refusedState ∧ s.Frame t Piece.ofCommand)

/-- R193, R28, R68, R96, R120 and R154: TRAFFIC_RESET frees every entry, answers nobody, closes every port to DISABLED with LINK_RESET on
each link that was not, sends LINK_RESET to the target, sets every remaining budget to its budget and restarts the period; TARGET_STATE is
set when the target was not OFFLINE. No REVOKE is sent, and a drain in progress is abandoned without DRAIN_DONE. Configuration and
observations stay. -/
def Obligations.TrafficResetClearsTraffic : Prop :=
  ∀ (s : State), s.rstN = true → ∃ t, exec .trafficReset s = .next t ∧ s.Completes t 0x7F .done ∧
    (∀ x : EntryIdx, t.entry x = none) ∧
    (∀ i : Initiator, t.port i = { state := .disabled, granted := 0, queue := [] } ∧ t.head i = .noHead ∧
      t.remaining i = (s.profile i).budget ∧
      t.sentTo i = s.sentTo i ++ (if (s.port i).state = .disabled then [] else [.linkReset])) ∧
    t.admission.highPointer = 3 ∧ t.admission.normalPointer = 3 ∧
    t.regulation.timer = (if s.regulation.period = 0 then none else some { ticks := 0 }) ∧
    t.target = { s.target with state := .offline, credits := 0, highQueue := [], normalQueue := [], consecutiveHigh := 0,
                               resyncTimer := none } ∧
    t.links.toTarget = s.links.toTarget ++ [.linkReset] ∧
    t.flag .targetState = (s.flag .targetState || decide (s.target.state ≠ .offline)) ∧
    s.Frame t (Piece.ofClaim ++ initiators.map .portState ++ initiators.map .granted ++ initiators.map .queue ++
      initiators.map .head ++ initiators.map .remaining ++ initiators.map .link ++
      [.highPointer, .normalPointer, .periodTimer, .targetState, .credits, .consecutiveHigh, .resyncTimer, .targetLink,
       .flag .targetState] ++ Piece.ofCommand)

/-- R190 and R191: an unassigned code changes no block; its status is UNKNOWN, and the command status register shows it with the code's low
byte. A command whose argument is out of its range is refused INVALID and reports COMMAND_REFUSED alone. Nothing else changes. -/
def Obligations.RefusedCommandsChangeNothing : Prop :=
  ∀ (s : State), s.rstN = true →
    (∀ code : Word, (Instr.unassignedCommand code).wellFormed = true →
      ∃ t, exec (.unassignedCommand code) s = .next t ∧ s.Completes t code .unknown ∧
        (t.readWord 0x16).toNat = 3 + 256 * (code.toNat % 256) ∧ s.Frame t Piece.ofCommand) ∧
    (∀ row ∈ [(Instr.portEnable, 4, (0x01 : Word)), (.portDrain, 4, 0x02), (.portFence, 4, 0x03), (.writeWindow, 8, 0x20),
        (.readWindow, 8, 0x21), (.writeProfile, 4, 0x22), (.readProfile, 4, 0x23), (.budgetReload, 4, 0x30),
        (.histClear, 4, 0x40), (.trackerSnapshot, 64, 0x50)],
      row.2.1 ≤ s.management.argument.toNat →
      ∃ t, exec row.1 s = .next t ∧ s.Completes t row.2.2 .invalid ∧ s.Frame t Piece.ofCommand)

/-! ### Registers (chapters 5, 6, 7, 9, 10 and 11) -/

/-- R122, R85, R114 and R112: the four control registers bound what is written and read back the value held. A prescaler write abandons the
tick in progress; a period write restarts or stops the period timer; a detach limit at or below the detached count makes an ONLINE
target SUSPECT, and heads are checked again (R60); a resync wait write leaves a running timer. -/
def Obligations.ControlRegisterWrites : Prop :=
  ∀ (v : Word) (s : State), s.rstN = true →
    (∃ t, exec (.prescalerWrite v) s = .next t ∧ t.timebase.prescaler = max 1 (min 256 v.toNat) ∧ t.timebase.progress = 0 ∧
      (t.readWord 0x08).toNat = max 1 (min 256 v.toNat) ∧ s.Frame t [.prescaler, .progress]) ∧
    (∃ t, exec (.regulationPeriodWrite v) s = .next t ∧ t.regulation.period = v.toNat ∧
      t.regulation.timer = (if v = 0 then none else some { ticks := 0 }) ∧ t.readWord 0x09 = v ∧ s.Frame t [.period, .periodTimer]) ∧
    (∃ t, exec (.detachLimitWrite v) s = .next t ∧ t.target.detachLimit = max 1 (min 64 v.toNat) ∧
      (t.readWord 0x0A).toNat = max 1 (min 64 v.toNat) ∧
      (if s.target.state = .online ∧ max 1 (min 64 v.toNat) ≤ s.detachedCount then
        t.target.state = .suspect ∧ t.flag .targetState = true ∧ s.Checks t true s.view ∧
          s.Frame t (.detachLimit :: Piece.ofNotices)
       else s.Frame t [.detachLimit])) ∧
    (∃ t, exec (.resyncWaitWrite v) s = .next t ∧ t.target.resyncWait = max 1 v.toNat ∧ (t.readWord 0x0B).toNat = max 1 v.toNat ∧
      s.Frame t [.resyncWait])

/-- R123 and R166: a read of the tick count's low word, or of a counter's, drives that word and latches the high word of the same value; the
high word register shows the latched word; writes to the tick count words are ignored. The driven word is kept in `busData`,
the model's own field (log entry 5). -/
def Obligations.LowWordReadsLatch : Prop :=
  ∀ (c : CounterIdx) (s : State), s.rstN = true →
    (∃ t, exec .tickCountLowRead s = .next t ∧
      t.management.busData = some (s.readWord 0x0C) ∧
      (t.readWord 0x0D).toNat * 65536 + (s.readWord 0x0C).toNat = s.timebase.count.toNat ∧ s.Frame t [.tickHolding, .busData]) ∧
    s.readWord 0x0D = s.timebase.highHolding ∧
    (∀ v : Word, exec (.registerWrite 0x0C v) s = .next s ∧ exec (.registerWrite 0x0D v) s = .next s) ∧
    (∃ t, exec (.counterValueLowRead c) s = .next t ∧
      t.management.busData = some (s.readWord (BitVec.ofNat 8 (0x80 + 4 * c))) ∧
      (t.readWord (BitVec.ofNat 8 (0x81 + 4 * c))).toNat * 65536 + (s.readWord (BitVec.ofNat 8 (0x80 + 4 * c))).toNat =
        (s.counter c).value.toNat ∧
      s.Frame t [.readHolding c, .busData]) ∧
    s.readWord (BitVec.ofNat 8 (0x81 + 4 * c)) = (s.counter c).readHolding

/-- R167, R156 and R162: a high-word write fills the write holding value; a low-word write makes the counter that word below the held one; a
control write takes its word's fields, reads back the codes written and makes the EDGE memory BELOW; writing 1 clears an overflow flag. -/
def Obligations.CounterWrites : Prop :=
  ∀ (c : CounterIdx) (v : Word) (s : State), s.rstN = true →
    (∃ t, exec (.counterValueHighWrite c v) s = .next t ∧ (t.counter c).writeHolding = v ∧ s.Frame t [.writeHolding c]) ∧
    (∃ t, exec (.counterValueLowWrite c v) s = .next t ∧
      (t.counter c).value.toNat = (s.counter c).writeHolding.toNat * 65536 + v.toNat ∧ s.Frame t [.counterValue c]) ∧
    (∃ t, exec (.counterControlWrite c .a v) s = .next t ∧ (t.counter c).edgeMemory = .below ∧
      (let k := (t.counter c).control
       k.enable = v.getLsbD 0 ∧ k.event.toNat = v.toNat / 2 % 16 ∧ k.mode.toNat = v.toNat / 32 % 8 ∧
         k.qualifier.toNat = v.toNat / 256 % 8 ∧
         k = { (s.counter c).control with enable := k.enable, event := k.event, mode := k.mode, qualifier := k.qualifier }) ∧
      t.readWord (BitVec.ofNat 8 (0x82 + 4 * c)) = v &&& 0x07FF ∧ s.Frame t [.counterControl c, .edgeMemory c]) ∧
    (∃ t, exec (.counterControlWrite c .b v) s = .next t ∧ (t.counter c).edgeMemory = .below ∧
      (let k := (t.counter c).control
       k.mask.toNat = v.toNat % 16 ∧ k.overflowInterrupt = v.getLsbD 4 ∧ k.freezeOnOverflow = v.getLsbD 5 ∧
         k.threshold.toNat = v.toNat / 256 ∧
         k = { (s.counter c).control with mask := k.mask, overflowInterrupt := k.overflowInterrupt,
                                          freezeOnOverflow := k.freezeOnOverflow, threshold := k.threshold }) ∧
      t.readWord (BitVec.ofNat 8 (0x83 + 4 * c)) = v &&& 0xFF3F ∧ s.Frame t [.counterControl c, .edgeMemory c]) ∧
    (∃ t, exec (.counterOverflowFlagsWrite v) s = .next t ∧
      (∀ d : CounterIdx, (t.counter d).overflow = ((s.counter d).overflow && !v.getLsbD d)) ∧
      s.Frame t ((List.finRange 6).map .overflow))

/-- R182 and R183: a write to the flag register clears the flags written with 1 and leaves the others; a write to the enable register
replaces all fifteen enables; INT_N is low exactly while a flag is set whose enable is on. -/
def Obligations.InterruptRegisterWrites : Prop :=
  ∀ (v : Word) (s : State), s.rstN = true →
    (∃ t, exec (.interruptFlagsWrite v) s = .next t ∧
      (∀ c : Cause, t.flag c = (s.flag c && !v.getLsbD c.place)) ∧ t.interrupts.enables = s.interrupts.enables ∧
      s.Frame t ((initiators.map fun i => .flag (.drainDone i)) ++ (initiators.map fun i => .flag (.portReset i)) ++
        [.flag .targetState, .flag .fault, .flag .faultLost, .flag .counterOvf, .flag .budgetWait, .flag .commandRefused,
         .flag .configError])) ∧
    (∃ t, exec (.interruptEnablesWrite v) s = .next t ∧
      (∀ c : Cause, t.interrupts.enables.getLsbD c.place = v.getLsbD c.place) ∧ t.readWord 0x11 = v &&& 0x7FFF ∧
      s.Frame t [.enables]) ∧
    (s.intLow = true ↔ ∃ c : Cause, s.flag c = true ∧ s.interrupts.enables.getLsbD c.place = true)

/-- R189: a write of the histogram index sets the bin from bits 0 to 2 and the initiator from bits 3 and 4; the bin register shows that bin;
device reset makes the index 0 and traffic reset keeps it; writes to the bin register and the edge registers are ignored. -/
def Obligations.HistogramIndexNamesABin : Prop :=
  ∀ (v : Word) (s : State), s.rstN = true →
    (∃ t, exec (.histogramIndexWrite v) s = .next t ∧
      t.management.histogramBin.val = v.toNat % 8 ∧ t.management.histogramInitiator.val = v.toNat / 8 % 4 ∧
      t.readWord 0xA8 = v &&& 0x1F ∧ s.Frame t [.histogramIndex]) ∧
    s.readWord 0xA9 = BitVec.ofNat 16 s.monitor.bins[s.management.histogramInitiator][s.management.histogramBin] ∧
    (∃ t, exec .deviceReset s = .next t ∧ t.readWord 0xA8 = 0) ∧
    (∃ t, exec .trafficReset s = .next t ∧ t.readWord 0xA8 = s.readWord 0xA8) ∧
    exec (.registerWrite 0xA9 v) s = .next s ∧
    (∀ a : BitVec 8, 0xA0 ≤ a.toNat → a.toNat ≤ 0xA6 → exec (.registerWrite a v) s = .next s)

/-- R186, R187, R188 and R190: a staging write changes the one word; a write to the argument register is kept for the commands; a write to
every other address that has no row of its own is ignored. A bus cycle with MCS_N high, with both strobes low or with neither does nothing
and drives nothing; a write cycle is the command of its address, which is what a write of that word to that address does; a read cycle
drives the addressed word as it stands, and has no effect but that of the two latching reads (`busData`, the model's own record of the
word read, aside: log entry 5). While RST_N is low every cycle is ignored and nothing is driven (R195). -/
def Obligations.StagingAndOtherWrites : Prop :=
  ∀ (v : Word) (s : State),
    (s.rstN = false → ∀ b : BusCycle, s.busCycle b = .next s ∧ s.busDrives b = none) ∧
    (s.rstN = true →
      (∀ k : Fin 8, ∃ t, exec (.stagingWrite k v) s = .next t ∧ t.staged k = v ∧
        t.readWord (BitVec.ofNat 8 (0x18 + k)) = v ∧ s.Frame t [.staging k]) ∧
      (∃ t, exec (.registerWrite 0x15 v) s = .next t ∧ t.management.argument = v ∧ t.readWord 0x15 = v ∧ s.Frame t [.argument]) ∧
      (∀ a : BitVec 8, (Instr.registerWrite a v).wellFormed = true → a ≠ 0x15 → exec (.registerWrite a v) s = .next s) ∧
      (∀ b : BusCycle, b.mcsN = true ∨ b.mrdN = b.mwrN → s.busCycle b = .next s ∧ s.busDrives b = none) ∧
      (∀ a : BitVec 8,
        (let b : BusCycle := { mcsN := false, mrdN := true, mwrN := false, address := a, data := v }
         s.busDrives b = none ∧ s.busCycle b = exec (writeCommandAt a v) s ∧ (writeCommandAt a v).wellFormed = true ∧
           s.busCycle b = exec (.registerWrite a v) s) ∧
        (let b : BusCycle := { mcsN := false, mrdN := false, mwrN := true, address := a, data := v }
         s.busDrives b = some (s.readWord a) ∧
         (a = 0x0C → s.busCycle b = exec .tickCountLowRead s) ∧
         (∀ c : CounterIdx, a = BitVec.ofNat 8 (0x80 + 4 * c) → s.busCycle b = exec (.counterValueLowRead c) s) ∧
         (a ≠ 0x0C → (∀ c : CounterIdx, a ≠ BitVec.ofNat 8 (0x80 + 4 * c)) →
           ∃ t, s.busCycle b = .next t ∧ t.management.busData = some (s.readWord a) ∧ s.Frame t [.busData]))))

/-- R186, R187, R119, R152, R180 and the map of 11.2: what reads of the part's identification, the command registers, the interrupt flags,
the port, target and fault status registers, the overflow flags, the bank state and the edges show, field by field at the map's bit
places, in a state whose counts are within their ranges; and every address not in the map reads 0. That the wait reason reads 0
while the head is not WAITING, and the head tag while the queue is empty, is the model's (log entry 18). -/
def Obligations.StatusRegistersShowState : Prop :=
  ∀ (s : State), s.CreditLaw → s.TargetCreditLaw → s.QueuesHoldReady → s.RangesHold → s.ConfigBounds →
    s.readWord 0x00 = 0x0464 ∧ s.readWord 0x01 = 0x0001 ∧
    (∀ c : Cause, (s.readWord 0x10).getLsbD c.place = s.flag c) ∧ (s.readWord 0x10).getLsbD 15 = false ∧
    s.readWord 0x14 = s.management.command ∧
    (s.readWord 0x16).toNat = (match s.management.status with | .done => 0 | .refusedState => 1 | .invalid => 2 | .unknown => 3) +
      256 * (s.management.command.toNat % 256) ∧
    (∀ i : Initiator,
      (s.readWord (BitVec.ofNat 8 (0x50 + 4 * i))).toNat =
        (match (s.port i).state with | .disabled => 0 | .active => 1 | .draining => 2 | .fenced => 3) + 256 * (s.port i).granted ∧
      (s.readWord (BitVec.ofNat 8 (0x51 + 4 * i))).toNat = (s.port i).queue.length +
        16 * (match (s.port i).queue with | [] => 0 | r :: _ => r.tag.val) +
        (match s.head i with
         | .noHead => 0 | .eligible => 256 | .waiting .target => 512 | .waiting .halt => 512 + 4096
         | .waiting .budget => 512 + 8192 | .waiting .quota => 512 + 12288) ∧
      (s.readWord (BitVec.ofNat 8 (0x52 + 4 * i))).toNat = s.outstanding i ∧
      (s.readWord (BitVec.ofNat 8 (0x53 + 4 * i))).toNat = s.inUse i) ∧
    (s.readWord 0x60).toNat = (match s.target.state with | .offline => 0 | .resyncing => 1 | .online => 2 | .suspect => 3) +
      256 * s.target.credits ∧
    (s.readWord 0x61).toNat = s.target.highQueue.length +
      256 * (match s.target.highQueue with | [] => 0 | x :: _ => x.val) ∧
    (s.readWord 0x62).toNat = s.target.normalQueue.length +
      256 * (match s.target.normalQueue with | [] => 0 | x :: _ => x.val) ∧
    (s.readWord 0x63).toNat = s.target.consecutiveHigh + 256 * s.detachedCount ∧
    (s.readWord 0x64).toNat = (match s.target.resyncTimer with | some n => n.ticks | none => 0) ∧
    (s.faultLog = [] → s.readWord 0x40 = 0 ∧ s.readWord 0x41 = 0x0500 ∧
      ∀ a : BitVec 8, 0x42 ≤ a.toNat → a.toNat ≤ 0x48 → s.readWord a = 0) ∧
    (∀ f ∈ s.faultLog.head?, (s.readWord 0x40).toNat = s.faultLog.length + 32768 ∧
      (s.readWord 0x41).toNat =
        [FaultKind.creditOverrun, .dupTag, .malformed, .linkReset, .strayResponse, .lateResponse, .badResponse, .timeout,
          .targetCreditOverflow, .resyncTimeout, .unexpectedAck].idxOf f.report.kind + 1 +
        256 * (match f.report.source with | .initiator i => i.val | .target => 4) ∧
      (s.readWord 0x42).toNat = f.report.tag.isSome.toNat + 2 * f.report.entry.isSome.toNat + 4 * f.report.address.isSome.toNat +
        8 * f.report.cause.isSome.toNat + 16 * f.report.expiryState.isSome.toNat ∧
      (s.readWord 0x43).toNat = (match f.report.tag with | some g => g.val | none => 0) +
        256 * (match f.report.entry with | some x => x.val | none => 0) ∧
      (s.readWord 0x46).toNat =
        (match f.report.cause with
         | none => 0 | some .timeout => 0 | some .fence => 1 | some .linkReset => 2 | some .offline => 3 | some .resync => 4) +
        256 * (match f.report.expiryState with | none => 0 | some .waiting => 0 | some .ready => 1 | some .issued => 2) ∧
      (s.readWord 0x45).toNat * 65536 + (s.readWord 0x44).toNat = (match f.report.address with | some a => a.toNat | none => 0) ∧
      (s.readWord 0x48).toNat * 65536 + (s.readWord 0x47).toNat = f.tick.toNat) ∧
    (∀ k : Nat, (s.readWord 0x98).getLsbD k = if h : k < 6 then (s.counter ⟨k, h⟩).overflow else false) ∧
    (s.readWord 0x99).toNat = (match s.monitor.bank with | .running => 0 | .frozen => 1) ∧
    (∀ k : Fin 7, (s.readWord (BitVec.ofNat 8 (0xA0 + k))).toNat = s.monitor.edges[k]) ∧
    (∀ a : BitVec 8,
      (∀ range ∈ [(0x00, 0x01), (0x08, 0x0D), (0x10, 0x11), (0x14, 0x16), (0x18, 0x1F), (0x20, 0x34), (0x40, 0x48), (0x50, 0x5F),
          (0x60, 0x64), (0x80, 0x97), (0x98, 0x99), (0xA0, 0xA6), (0xA8, 0xA9)], ¬(range.1 ≤ a.toNat ∧ a.toNat ≤ range.2)) →
      s.readWord a = 0)

/-! ### Shared operations: head checks, freeing, the monitor's adds -/

/-- R54 to R58, R74 to R77: the five checks of a head, in their order. The lowest-numbered enabled window that holds the line decides; then
its right for this initiator; then the target state; then mode and budget; then the quota rule. A window within its bounds moves the line
from its base to its remap line and keeps the offset. And R53, R57, R60 and R61: the check of a head that arrives, of one port's head, and
of every head. Each head the checks refuse is answered with the status of the check that refused it and then credited, with one REFUSED
report of its qualifier, and the next request arrives as head; the head that stays has its status; BUDGET_WAIT is reported for a head
that comes to wait for BUDGET. -/
def Obligations.HeadChecksInOrder : Prop :=
  (∀ row ∈ [(HeadRefusal.decode, Status.errDecode, 1), (.denied, .errDenied, 2), (.target, .errTarget, 3)],
    row.1.status = row.2.1 ∧ row.1.qualifier = row.2.2) ∧
  (∀ (s : State) (i : Initiator),
    (let checked : State → PortView → Prop := fun t v =>
       t.view i = t.afterCheck i v ∧ t.flag .budgetWait = (s.flag .budgetWait || t.entersBudgetWait i v) ∧
       s.Counts t (t.refusalReports i v) ∧
       s.Frame t ([.head i, .queue i, .granted i, .link i, .flag .budgetWait] ++ Piece.ofReport)
     checked (s.headArrives i) { s.view i with status := .noHead } ∧
     (s.head i ≠ .noHead → checked (s.recheckOne i) (s.view i)) ∧ (s.head i = .noHead → s.recheckOne i = s) ∧
     s.Checks s.recheck true s.view ∧ s.Frame s.recheck Piece.ofRecheck)) ∧
  ∀ (s : State) (i : Initiator) (r : Request),
    (let line : Nat := r.address.toNat / 64
     let holds : WindowIdx → Prop := fun w =>
       s.windows[w].enabled = true ∧ s.windows[w].baseLine ≤ line ∧ line ≤ s.windows[w].limitLine
     ((∀ w, ¬holds w) → s.lookup line = none ∧ s.verdict i r = .refuse .decode) ∧
     (∀ w : WindowIdx, holds w → (∀ v : WindowIdx, v < w → ¬holds v) →
       s.lookup line = some w ∧
       (let right : Right := s.windows[w].rights[i]
        let allowed : Prop := right = .readWrite ∨ (right = .read ∧ r.op = .read) ∨ (right = .write ∧ r.op = .write)
        let quota : Prop := s.inUse i + 1 ≤ (s.profile i).cap ∧
          (1 + ((initiators.filter (· ≠ i)).map fun j => (s.profile j).reserved - s.inUse j).sum ≤ s.freeCount ∨
            (s.inUse i < (s.profile i).reserved ∧ 1 ≤ s.freeCount))
        (¬allowed → s.verdict i r = .refuse .denied) ∧
        (allowed →
          (s.target.state = .offline ∨ s.target.state = .suspect → s.verdict i r = .refuse .target) ∧
          (s.target.state = .resyncing → s.verdict i r = .wait .target) ∧
          (s.target.state = .online →
            ((s.profile i).mode = .halted → s.verdict i r = .wait .halt) ∧
            ((s.profile i).mode = .metered → s.remaining i < r.beats → s.verdict i r = .wait .budget) ∧
            ((s.profile i).mode = .free ∨ ((s.profile i).mode = .metered ∧ r.beats ≤ s.remaining i) →
              (quota → s.verdict i r = .pass) ∧ (¬quota → s.verdict i r = .wait .quota))))) ∧
       (s.windows[w].withinBounds = true →
         (s.windows[w].remap r.address).toNat =
             64 * (s.windows[w].remapLine + (line - s.windows[w].baseLine)) + r.address.toNat % 64 ∧
           lineOf (s.windows[w].remap r.address) = s.windows[w].remapLine + (line - s.windows[w].baseLine))))

/-- R9, R10 and R2: freeing entry x clears its record, takes it from its issue queue and from every list that names it, and moves each
successor it alone held back to READY, at the tail of the queue of its class in ascending index. -/
def Obligations.FreeingReleasesSuccessors : Prop :=
  ∀ (s : State) (x : EntryIdx) (e : Entry), s.TrackerLaws → s.entry x = some e →
    (let t := s.freeEntry x
     let released : Cls → List EntryIdx := fun c =>
       entryIndices.filter fun y => (s.entry y).any fun f => f.predecessors = [x] && f.cls = c
     t.entry x = none ∧
     t.target.highQueue = s.target.highQueue.filter (· ≠ x) ++ released .high ∧
     t.target.normalQueue = s.target.normalQueue.filter (· ≠ x) ++ released .normal ∧
     (∀ y : EntryIdx, y ≠ x → t.entry y = (s.entry y).map fun f =>
       { f with
         phase := if f.predecessors = [x] then .ready else f.phase
         predecessors := f.predecessors.filter (· ≠ x)
         successors := f.successors.filter (· ≠ x) }) ∧
     s.Frame t Piece.ofClaim)

/-- R156 to R159 and R161 to R164, with R169: what an add does, overflow included; which reports a control takes; what event and mode an
enabled control counts, by its codes; what value each sampled event reads; which bin a latency falls in; the free order of the adds of one
report (log entry 1) is any order of them and leaves none out; and what a report, or the samples of a tick, do in a RUNNING bank that an
add may freeze: an add taken before the freeze lands whole, the freezing one included, and one after it is dropped, as is the binning. In a
FROZEN bank both leave everything as it was. -/
def Obligations.CountersTakeReports : Prop :=
  (∀ (s : State) (c : CounterIdx) (n : Nat),
    (let t := s.addTo c n
     let past : Bool := 2 ^ 32 ≤ (s.counter c).value.toNat + n
     (t.counter c).value.toNat = ((s.counter c).value.toNat + n) % 2 ^ 32 ∧
     (t.counter c).overflow = ((s.counter c).overflow || past) ∧
     t.flag .counterOvf = (s.flag .counterOvf || (past && (s.counter c).control.overflowInterrupt)) ∧
     t.monitor.bank = (if past && (s.counter c).control.freezeOnOverflow then .frozen else s.monitor.bank) ∧
     s.Frame t [.counterValue c, .overflow c, .bank, .flag .counterOvf])) ∧
  (∀ (k : Control) (r : Report), k.takes r = true ↔
    k.enable = true ∧ k.mode.toNat ≤ 3 ∧ k.mask.getLsbD r.initiator = true ∧
    k.event.toNat = [Event.admitted, .beatsAdmitted, .refused, .completed, .timedOut, .late, .depWait, .issue, .headWait, .trackerUse,
      .ingressUse, .creditEmpty, .ticks].idxOf r.event ∧
    (let among : Nat → Prop := fun n => k.qualifier.toNat < n ∧ (k.qualifier = 0 ∨ k.qualifier.toNat = r.qualifier)
     match r.event with
     | .admitted | .beatsAdmitted | .completed | .timedOut | .issue | .trackerUse => among 3
     | .refused | .headWait => among 5
     | .late | .depWait | .ingressUse | .creditEmpty | .ticks => True)) ∧
  (∀ (k : Control) (e : Event) (m : CountMode), k.counting = some (e, m) ↔
    k.enable = true ∧
    k.event.toNat = [Event.admitted, .beatsAdmitted, .refused, .completed, .timedOut, .late, .depWait, .issue, .headWait, .trackerUse,
      .ingressUse, .creditEmpty, .ticks].idxOf e ∧
    k.mode.toNat = [CountMode.count, .threshold, .edge, .accumulate].idxOf m ∧
    match e with
    | .admitted | .beatsAdmitted | .completed | .timedOut | .issue | .trackerUse => k.qualifier.toNat < 3
    | .refused | .headWait => k.qualifier.toNat < 5
    | .late | .depWait | .ingressUse | .creditEmpty | .ticks => True) ∧
  (∀ e : Event, e.sampled = true ↔ e ∈ [Event.headWait, .trackerUse, .ingressUse, .creditEmpty, .ticks]) ∧
  (∀ (s : State) (k : Control),
    (let masked : List Initiator := initiators.filter fun i => k.mask.getLsbD i
     let q : Nat := k.qualifier.toNat
     s.sampleValue k .headWait =
       (masked.filter fun i => match s.head i with
         | .waiting .budget => q == 0 || q == 1
         | .waiting .quota => q == 0 || q == 2
         | .waiting .target => q == 0 || q == 3
         | .waiting .halt => q == 0 || q == 4
         | .eligible => false
         | .noHead => false).length ∧
     s.sampleValue k .trackerUse =
       (entryIndices.filter fun x => match s.entry x with
         | none => false
         | some e => masked.contains e.initiator && match e.phase with
           | .issued => q == 0 || q == 1
           | .detached _ => q == 0 || q == 2
           | .waiting => q == 0
           | .ready => q == 0).length ∧
     s.sampleValue k .ingressUse = (masked.map fun i => (s.port i).queue.length).sum ∧
     s.sampleValue k .creditEmpty =
       (if s.target.credits = 0 ∧ (s.target.highQueue ≠ [] ∨ s.target.normalQueue ≠ []) then 1 else 0) ∧
     s.sampleValue k .ticks = 1)) ∧
  (∀ (edges : Vector Nat 7) (latency : Nat) (k : Fin 8), edgesValid edges = true → (binOf edges latency = k ↔ inBin edges latency k)) ∧
  (∀ l : List (Option CounterIdx),
    (∀ n, (arrange n l).Perm l) ∧ (∀ l' : List (Option CounterIdx), l'.Perm l → ∃ n, arrange n l = l')) ∧
  (∀ (s : State) (rs : List Report) (latency : Option (Initiator × Tick)),
    (s.monitor.bank = .frozen → s.report rs latency = s ∧ s.sampleAll = s) ∧
    (s.monitor.bank = .running → rs.Pairwise (fun a b => a.event ≠ b.event) →
      s.AddsInSomeOrder (s.report rs latency)
        (fun c => ((rs.filter (s.counter c).control.takes).map Report.amount).sum) (fun c => (s.counter c).edgeMemory) latency) ∧
    (s.monitor.bank = .running →
      s.AddsInSomeOrder s.sampleAll
        (fun c => match (s.counter c).control.counting with
          | some (e, m) =>
            (let v := s.sampleValue (s.counter c).control e
             let reached : Bool := (s.counter c).control.threshold.toNat ≤ v
             if e.sampled then
               match m with
               | .count => if 0 < v then 1 else 0
               | .accumulate => v
               | .threshold => if reached then 1 else 0
               | .edge => if reached ∧ (s.counter c).edgeMemory = .below then 1 else 0
             else 0)
          | none => 0)
        (fun c => match (s.counter c).control.counting with
          | some (e, .edge) =>
            if e.sampled then
              if (s.counter c).control.threshold.toNat ≤ s.sampleValue (s.counter c).control e then .atOrAbove else .below
            else (s.counter c).edgeMemory
          | _ => (s.counter c).edgeMemory)
        none))

/-! ### Laws that every step keeps -/

/-- R38 and R45, and R137: every step keeps the credit law of the initiator links. -/
def Obligations.CreditLawIsKept : Prop := ∀ (s t : State), s.CreditLaw → step s = .next t → t.CreditLaw

/-- R40, R99, R114 and R116: every step keeps the laws of the target port: its credits within 64 and 0 while it is away, no entry ISSUED
while it is away, and fewer entries DETACHED than the limit while it is ONLINE. -/
def Obligations.TargetLawsAreKept : Prop :=
  ∀ (s t : State), s.TargetCreditLaw ∧ s.NoneIssuedWhileAway ∧ s.QuarantineLaw → step s = .next t →
    t.TargetCreditLaw ∧ t.NoneIssuedWhileAway ∧ t.QuarantineLaw

/-- R1, R2, R3, R21 and R98: every step keeps the tracker's laws: the fields an entry holds in each phase, the mirrored dependency lists,
the READY entries standing once each in the queue of their class; and in OFFLINE every entry FREE or DETACHED. -/
def Obligations.TrackerLawsAreKept : Prop :=
  ∀ (s t : State), s.TrackerLaws ∧ s.OfflineIsQuiet → step s = .next t → t.TrackerLaws ∧ t.OfflineIsQuiet

/-- R42: every step keeps the tags of one initiator's queued requests and live entries distinct, in states that keep the tracker's laws. -/
def Obligations.TagsStayDistinct : Prop :=
  ∀ (s t : State), s.TrackerLaws → s.TagsDistinct → step s = .next t → t.TagsDistinct

/-- R53, R60 and R63: every step leaves each head status what the five checks find of that head as the state then stands. -/
def Obligations.HeadStatusesStayTrue : Prop := ∀ (s t : State), s.HeadsTrue → step s = .next t → t.HeadsTrue

/-- R1, R43, R49, R69, R83, R97, R121, R168, R170 and R177: every step keeps the committed records, the counts and the timers within their
ranges, a RUNNING resync wait at 1 to 65535 ticks left and a RUNNING period below its period, the queued requests well-formed, and the
beats of every entry within 1 to 8. -/
def Obligations.BoundsAreKept : Prop :=
  ∀ (s t : State), s.ConfigBounds ∧ s.RangesHold ∧ s.QueuedWellFormed ∧ s.EntriesInRange → step s = .next t →
    t.ConfigBounds ∧ t.RangesHold ∧ t.QueuedWellFormed ∧ t.EntriesInRange

/-- The laws hold right after device reset. -/
def Obligations.ResetKeepsEveryLaw : Prop :=
  State.reset.CreditLaw ∧ State.reset.TargetCreditLaw ∧ State.reset.NoneIssuedWhileAway ∧ State.reset.QuarantineLaw ∧
  State.reset.TrackerLaws ∧ State.reset.OfflineIsQuiet ∧ State.reset.TagsDistinct ∧ State.reset.HeadsTrue ∧
  State.reset.ConfigBounds ∧ State.reset.RangesHold ∧ State.reset.QueuedWellFormed ∧ State.reset.EntriesInRange ∧ State.reset.pending = []

/-- R3, R11 and R45: every request that is taken (with RST_N high) is answered once. The RESPONSEs sent to an initiator and the requests the
part still owes it change together: a REQUEST adds at most one, a LINK_RESET of that initiator or a reset drops what is owed unanswered,
and every other command answers exactly what it ceases to owe. -/
def Obligations.EveryRequestIsAnsweredOnce : Prop :=
  ∀ (c : Instr) (s t : State) (i : Initiator), s.rstN = true → c.wellFormed = true → s.TrackerLaws →
    exec c s = .next t →
    match c with
    | .request j _ =>
      t.responsesTo i + t.owed i = s.responsesTo i + s.owed i ∨
        (j = i ∧ t.responsesTo i + t.owed i = s.responsesTo i + s.owed i + 1)
    | .linkReset j =>
      if j = i then t.responsesTo i = s.responsesTo i ∧ ((s.port i).state ≠ .disabled → t.owed i = 0)
      else t.responsesTo i + t.owed i = s.responsesTo i + s.owed i
    | .trafficReset => t.responsesTo i = s.responsesTo i ∧ t.owed i = 0
    | .deviceReset => t.responsesTo i = s.responsesTo i ∧ t.owed i = 0
    | _ => t.responsesTo i + t.owed i = s.responsesTo i + s.owed i
end

