-- ==== Sys2Proof/Laws/State.lean ====
section
/-!
SUPPORT. Record laws of the named updates: one lemma per field an update leaves as it is, true by `rfl` and used by `simp`, so that no
proof unfolds an update for it.
-/

namespace Sys2Proof.Machine

/-! ### `State.setEntry` -/

@[simp] theorem State.setEntry_ports (s : State) (x : EntryIdx) (e : Option Entry) : (s.setEntry x e).ports = s.ports := rfl
@[simp] theorem State.setEntry_admission (s : State) (x : EntryIdx) (e : Option Entry) : (s.setEntry x e).admission = s.admission := rfl
@[simp] theorem State.setEntry_windows (s : State) (x : EntryIdx) (e : Option Entry) : (s.setEntry x e).windows = s.windows := rfl
@[simp] theorem State.setEntry_regulation (s : State) (x : EntryIdx) (e : Option Entry) : (s.setEntry x e).regulation = s.regulation := rfl
@[simp] theorem State.setEntry_target (s : State) (x : EntryIdx) (e : Option Entry) : (s.setEntry x e).target = s.target := rfl
@[simp] theorem State.setEntry_timebase (s : State) (x : EntryIdx) (e : Option Entry) : (s.setEntry x e).timebase = s.timebase := rfl
@[simp] theorem State.setEntry_monitor (s : State) (x : EntryIdx) (e : Option Entry) : (s.setEntry x e).monitor = s.monitor := rfl
@[simp] theorem State.setEntry_faultLog (s : State) (x : EntryIdx) (e : Option Entry) : (s.setEntry x e).faultLog = s.faultLog := rfl
@[simp] theorem State.setEntry_interrupts (s : State) (x : EntryIdx) (e : Option Entry) : (s.setEntry x e).interrupts = s.interrupts := rfl
@[simp] theorem State.setEntry_management (s : State) (x : EntryIdx) (e : Option Entry) : (s.setEntry x e).management = s.management := rfl
@[simp] theorem State.setEntry_links (s : State) (x : EntryIdx) (e : Option Entry) : (s.setEntry x e).links = s.links := rfl
@[simp] theorem State.setEntry_rstN (s : State) (x : EntryIdx) (e : Option Entry) : (s.setEntry x e).rstN = s.rstN := rfl
@[simp] theorem State.setEntry_sampleOwed (s : State) (x : EntryIdx) (e : Option Entry) : (s.setEntry x e).sampleOwed = s.sampleOwed := rfl
@[simp] theorem State.setEntry_choices (s : State) (x : EntryIdx) (e : Option Entry) : (s.setEntry x e).choices = s.choices := rfl
@[simp] theorem State.setEntry_pending (s : State) (x : EntryIdx) (e : Option Entry) : (s.setEntry x e).pending = s.pending := rfl

/-! ### `State.mapEntries` -/

@[simp] theorem State.mapEntries_ports (s : State) (f : EntryIdx → Option Entry → Option Entry) : (s.mapEntries f).ports = s.ports := by simp only [State.mapEntries]
@[simp] theorem State.mapEntries_admission (s : State) (f : EntryIdx → Option Entry → Option Entry) : (s.mapEntries f).admission = s.admission := by simp only [State.mapEntries]
@[simp] theorem State.mapEntries_windows (s : State) (f : EntryIdx → Option Entry → Option Entry) : (s.mapEntries f).windows = s.windows := by simp only [State.mapEntries]
@[simp] theorem State.mapEntries_regulation (s : State) (f : EntryIdx → Option Entry → Option Entry) : (s.mapEntries f).regulation = s.regulation := by simp only [State.mapEntries]
@[simp] theorem State.mapEntries_target (s : State) (f : EntryIdx → Option Entry → Option Entry) : (s.mapEntries f).target = s.target := by simp only [State.mapEntries]
@[simp] theorem State.mapEntries_timebase (s : State) (f : EntryIdx → Option Entry → Option Entry) : (s.mapEntries f).timebase = s.timebase := by simp only [State.mapEntries]
@[simp] theorem State.mapEntries_monitor (s : State) (f : EntryIdx → Option Entry → Option Entry) : (s.mapEntries f).monitor = s.monitor := by simp only [State.mapEntries]
@[simp] theorem State.mapEntries_faultLog (s : State) (f : EntryIdx → Option Entry → Option Entry) : (s.mapEntries f).faultLog = s.faultLog := by simp only [State.mapEntries]
@[simp] theorem State.mapEntries_interrupts (s : State) (f : EntryIdx → Option Entry → Option Entry) : (s.mapEntries f).interrupts = s.interrupts := by simp only [State.mapEntries]
@[simp] theorem State.mapEntries_management (s : State) (f : EntryIdx → Option Entry → Option Entry) : (s.mapEntries f).management = s.management := by simp only [State.mapEntries]
@[simp] theorem State.mapEntries_links (s : State) (f : EntryIdx → Option Entry → Option Entry) : (s.mapEntries f).links = s.links := by simp only [State.mapEntries]
@[simp] theorem State.mapEntries_rstN (s : State) (f : EntryIdx → Option Entry → Option Entry) : (s.mapEntries f).rstN = s.rstN := by simp only [State.mapEntries]
@[simp] theorem State.mapEntries_sampleOwed (s : State) (f : EntryIdx → Option Entry → Option Entry) : (s.mapEntries f).sampleOwed = s.sampleOwed := by simp only [State.mapEntries]
@[simp] theorem State.mapEntries_choices (s : State) (f : EntryIdx → Option Entry → Option Entry) : (s.mapEntries f).choices = s.choices := by simp only [State.mapEntries]
@[simp] theorem State.mapEntries_pending (s : State) (f : EntryIdx → Option Entry → Option Entry) : (s.mapEntries f).pending = s.pending := by simp only [State.mapEntries]

/-! ### `State.modPort` -/

@[simp] theorem State.modPort_tracker (s : State) (i : Initiator) (f : Port → Port) : (s.modPort i f).tracker = s.tracker := rfl
@[simp] theorem State.modPort_admission (s : State) (i : Initiator) (f : Port → Port) : (s.modPort i f).admission = s.admission := rfl
@[simp] theorem State.modPort_windows (s : State) (i : Initiator) (f : Port → Port) : (s.modPort i f).windows = s.windows := rfl
@[simp] theorem State.modPort_regulation (s : State) (i : Initiator) (f : Port → Port) : (s.modPort i f).regulation = s.regulation := rfl
@[simp] theorem State.modPort_target (s : State) (i : Initiator) (f : Port → Port) : (s.modPort i f).target = s.target := rfl
@[simp] theorem State.modPort_timebase (s : State) (i : Initiator) (f : Port → Port) : (s.modPort i f).timebase = s.timebase := rfl
@[simp] theorem State.modPort_monitor (s : State) (i : Initiator) (f : Port → Port) : (s.modPort i f).monitor = s.monitor := rfl
@[simp] theorem State.modPort_faultLog (s : State) (i : Initiator) (f : Port → Port) : (s.modPort i f).faultLog = s.faultLog := rfl
@[simp] theorem State.modPort_interrupts (s : State) (i : Initiator) (f : Port → Port) : (s.modPort i f).interrupts = s.interrupts := rfl
@[simp] theorem State.modPort_management (s : State) (i : Initiator) (f : Port → Port) : (s.modPort i f).management = s.management := rfl
@[simp] theorem State.modPort_links (s : State) (i : Initiator) (f : Port → Port) : (s.modPort i f).links = s.links := rfl
@[simp] theorem State.modPort_rstN (s : State) (i : Initiator) (f : Port → Port) : (s.modPort i f).rstN = s.rstN := rfl
@[simp] theorem State.modPort_sampleOwed (s : State) (i : Initiator) (f : Port → Port) : (s.modPort i f).sampleOwed = s.sampleOwed := rfl
@[simp] theorem State.modPort_choices (s : State) (i : Initiator) (f : Port → Port) : (s.modPort i f).choices = s.choices := rfl
@[simp] theorem State.modPort_pending (s : State) (i : Initiator) (f : Port → Port) : (s.modPort i f).pending = s.pending := rfl

/-! ### `State.setHead` -/

@[simp] theorem State.setHead_tracker (s : State) (i : Initiator) (h : HeadStatus) : (s.setHead i h).tracker = s.tracker := rfl
@[simp] theorem State.setHead_ports (s : State) (i : Initiator) (h : HeadStatus) : (s.setHead i h).ports = s.ports := rfl
@[simp] theorem State.setHead_windows (s : State) (i : Initiator) (h : HeadStatus) : (s.setHead i h).windows = s.windows := rfl
@[simp] theorem State.setHead_regulation (s : State) (i : Initiator) (h : HeadStatus) : (s.setHead i h).regulation = s.regulation := rfl
@[simp] theorem State.setHead_target (s : State) (i : Initiator) (h : HeadStatus) : (s.setHead i h).target = s.target := rfl
@[simp] theorem State.setHead_timebase (s : State) (i : Initiator) (h : HeadStatus) : (s.setHead i h).timebase = s.timebase := rfl
@[simp] theorem State.setHead_monitor (s : State) (i : Initiator) (h : HeadStatus) : (s.setHead i h).monitor = s.monitor := rfl
@[simp] theorem State.setHead_faultLog (s : State) (i : Initiator) (h : HeadStatus) : (s.setHead i h).faultLog = s.faultLog := rfl
@[simp] theorem State.setHead_interrupts (s : State) (i : Initiator) (h : HeadStatus) : (s.setHead i h).interrupts = s.interrupts := rfl
@[simp] theorem State.setHead_management (s : State) (i : Initiator) (h : HeadStatus) : (s.setHead i h).management = s.management := rfl
@[simp] theorem State.setHead_links (s : State) (i : Initiator) (h : HeadStatus) : (s.setHead i h).links = s.links := rfl
@[simp] theorem State.setHead_rstN (s : State) (i : Initiator) (h : HeadStatus) : (s.setHead i h).rstN = s.rstN := rfl
@[simp] theorem State.setHead_sampleOwed (s : State) (i : Initiator) (h : HeadStatus) : (s.setHead i h).sampleOwed = s.sampleOwed := rfl
@[simp] theorem State.setHead_choices (s : State) (i : Initiator) (h : HeadStatus) : (s.setHead i h).choices = s.choices := rfl
@[simp] theorem State.setHead_pending (s : State) (i : Initiator) (h : HeadStatus) : (s.setHead i h).pending = s.pending := rfl

/-! ### `State.setRemaining` -/

@[simp] theorem State.setRemaining_tracker (s : State) (i : Initiator) (n : Nat) : (s.setRemaining i n).tracker = s.tracker := rfl
@[simp] theorem State.setRemaining_ports (s : State) (i : Initiator) (n : Nat) : (s.setRemaining i n).ports = s.ports := rfl
@[simp] theorem State.setRemaining_admission (s : State) (i : Initiator) (n : Nat) : (s.setRemaining i n).admission = s.admission := rfl
@[simp] theorem State.setRemaining_windows (s : State) (i : Initiator) (n : Nat) : (s.setRemaining i n).windows = s.windows := rfl
@[simp] theorem State.setRemaining_target (s : State) (i : Initiator) (n : Nat) : (s.setRemaining i n).target = s.target := rfl
@[simp] theorem State.setRemaining_timebase (s : State) (i : Initiator) (n : Nat) : (s.setRemaining i n).timebase = s.timebase := rfl
@[simp] theorem State.setRemaining_monitor (s : State) (i : Initiator) (n : Nat) : (s.setRemaining i n).monitor = s.monitor := rfl
@[simp] theorem State.setRemaining_faultLog (s : State) (i : Initiator) (n : Nat) : (s.setRemaining i n).faultLog = s.faultLog := rfl
@[simp] theorem State.setRemaining_interrupts (s : State) (i : Initiator) (n : Nat) : (s.setRemaining i n).interrupts = s.interrupts := rfl
@[simp] theorem State.setRemaining_management (s : State) (i : Initiator) (n : Nat) : (s.setRemaining i n).management = s.management := rfl
@[simp] theorem State.setRemaining_links (s : State) (i : Initiator) (n : Nat) : (s.setRemaining i n).links = s.links := rfl
@[simp] theorem State.setRemaining_rstN (s : State) (i : Initiator) (n : Nat) : (s.setRemaining i n).rstN = s.rstN := rfl
@[simp] theorem State.setRemaining_sampleOwed (s : State) (i : Initiator) (n : Nat) : (s.setRemaining i n).sampleOwed = s.sampleOwed := rfl
@[simp] theorem State.setRemaining_choices (s : State) (i : Initiator) (n : Nat) : (s.setRemaining i n).choices = s.choices := rfl
@[simp] theorem State.setRemaining_pending (s : State) (i : Initiator) (n : Nat) : (s.setRemaining i n).pending = s.pending := rfl

/-! ### `State.send` -/

@[simp] theorem State.send_tracker (s : State) (i : Initiator) (m : ToInitiator) : (s.send i m).tracker = s.tracker := rfl
@[simp] theorem State.send_ports (s : State) (i : Initiator) (m : ToInitiator) : (s.send i m).ports = s.ports := rfl
@[simp] theorem State.send_admission (s : State) (i : Initiator) (m : ToInitiator) : (s.send i m).admission = s.admission := rfl
@[simp] theorem State.send_windows (s : State) (i : Initiator) (m : ToInitiator) : (s.send i m).windows = s.windows := rfl
@[simp] theorem State.send_regulation (s : State) (i : Initiator) (m : ToInitiator) : (s.send i m).regulation = s.regulation := rfl
@[simp] theorem State.send_target (s : State) (i : Initiator) (m : ToInitiator) : (s.send i m).target = s.target := rfl
@[simp] theorem State.send_timebase (s : State) (i : Initiator) (m : ToInitiator) : (s.send i m).timebase = s.timebase := rfl
@[simp] theorem State.send_monitor (s : State) (i : Initiator) (m : ToInitiator) : (s.send i m).monitor = s.monitor := rfl
@[simp] theorem State.send_faultLog (s : State) (i : Initiator) (m : ToInitiator) : (s.send i m).faultLog = s.faultLog := rfl
@[simp] theorem State.send_interrupts (s : State) (i : Initiator) (m : ToInitiator) : (s.send i m).interrupts = s.interrupts := rfl
@[simp] theorem State.send_management (s : State) (i : Initiator) (m : ToInitiator) : (s.send i m).management = s.management := rfl
@[simp] theorem State.send_rstN (s : State) (i : Initiator) (m : ToInitiator) : (s.send i m).rstN = s.rstN := rfl
@[simp] theorem State.send_sampleOwed (s : State) (i : Initiator) (m : ToInitiator) : (s.send i m).sampleOwed = s.sampleOwed := rfl
@[simp] theorem State.send_choices (s : State) (i : Initiator) (m : ToInitiator) : (s.send i m).choices = s.choices := rfl
@[simp] theorem State.send_pending (s : State) (i : Initiator) (m : ToInitiator) : (s.send i m).pending = s.pending := rfl

/-! ### `State.sendTarget` -/

@[simp] theorem State.sendTarget_tracker (s : State) (m : ToTarget) : (s.sendTarget m).tracker = s.tracker := rfl
@[simp] theorem State.sendTarget_ports (s : State) (m : ToTarget) : (s.sendTarget m).ports = s.ports := rfl
@[simp] theorem State.sendTarget_admission (s : State) (m : ToTarget) : (s.sendTarget m).admission = s.admission := rfl
@[simp] theorem State.sendTarget_windows (s : State) (m : ToTarget) : (s.sendTarget m).windows = s.windows := rfl
@[simp] theorem State.sendTarget_regulation (s : State) (m : ToTarget) : (s.sendTarget m).regulation = s.regulation := rfl
@[simp] theorem State.sendTarget_target (s : State) (m : ToTarget) : (s.sendTarget m).target = s.target := rfl
@[simp] theorem State.sendTarget_timebase (s : State) (m : ToTarget) : (s.sendTarget m).timebase = s.timebase := rfl
@[simp] theorem State.sendTarget_monitor (s : State) (m : ToTarget) : (s.sendTarget m).monitor = s.monitor := rfl
@[simp] theorem State.sendTarget_faultLog (s : State) (m : ToTarget) : (s.sendTarget m).faultLog = s.faultLog := rfl
@[simp] theorem State.sendTarget_interrupts (s : State) (m : ToTarget) : (s.sendTarget m).interrupts = s.interrupts := rfl
@[simp] theorem State.sendTarget_management (s : State) (m : ToTarget) : (s.sendTarget m).management = s.management := rfl
@[simp] theorem State.sendTarget_rstN (s : State) (m : ToTarget) : (s.sendTarget m).rstN = s.rstN := rfl
@[simp] theorem State.sendTarget_sampleOwed (s : State) (m : ToTarget) : (s.sendTarget m).sampleOwed = s.sampleOwed := rfl
@[simp] theorem State.sendTarget_choices (s : State) (m : ToTarget) : (s.sendTarget m).choices = s.choices := rfl
@[simp] theorem State.sendTarget_pending (s : State) (m : ToTarget) : (s.sendTarget m).pending = s.pending := rfl

/-! ### `State.returnCredit` -/

@[simp] theorem State.returnCredit_tracker (s : State) (i : Initiator) : (s.returnCredit i).tracker = s.tracker := rfl
@[simp] theorem State.returnCredit_admission (s : State) (i : Initiator) : (s.returnCredit i).admission = s.admission := rfl
@[simp] theorem State.returnCredit_windows (s : State) (i : Initiator) : (s.returnCredit i).windows = s.windows := rfl
@[simp] theorem State.returnCredit_regulation (s : State) (i : Initiator) : (s.returnCredit i).regulation = s.regulation := rfl
@[simp] theorem State.returnCredit_target (s : State) (i : Initiator) : (s.returnCredit i).target = s.target := rfl
@[simp] theorem State.returnCredit_timebase (s : State) (i : Initiator) : (s.returnCredit i).timebase = s.timebase := rfl
@[simp] theorem State.returnCredit_monitor (s : State) (i : Initiator) : (s.returnCredit i).monitor = s.monitor := rfl
@[simp] theorem State.returnCredit_faultLog (s : State) (i : Initiator) : (s.returnCredit i).faultLog = s.faultLog := rfl
@[simp] theorem State.returnCredit_interrupts (s : State) (i : Initiator) : (s.returnCredit i).interrupts = s.interrupts := rfl
@[simp] theorem State.returnCredit_management (s : State) (i : Initiator) : (s.returnCredit i).management = s.management := rfl
@[simp] theorem State.returnCredit_rstN (s : State) (i : Initiator) : (s.returnCredit i).rstN = s.rstN := rfl
@[simp] theorem State.returnCredit_sampleOwed (s : State) (i : Initiator) : (s.returnCredit i).sampleOwed = s.sampleOwed := rfl
@[simp] theorem State.returnCredit_choices (s : State) (i : Initiator) : (s.returnCredit i).choices = s.choices := rfl
@[simp] theorem State.returnCredit_pending (s : State) (i : Initiator) : (s.returnCredit i).pending = s.pending := rfl

/-! ### `State.raise` -/

@[simp] theorem State.raise_tracker (s : State) (c : Cause) : (s.raise c).tracker = s.tracker := rfl
@[simp] theorem State.raise_ports (s : State) (c : Cause) : (s.raise c).ports = s.ports := rfl
@[simp] theorem State.raise_admission (s : State) (c : Cause) : (s.raise c).admission = s.admission := rfl
@[simp] theorem State.raise_windows (s : State) (c : Cause) : (s.raise c).windows = s.windows := rfl
@[simp] theorem State.raise_regulation (s : State) (c : Cause) : (s.raise c).regulation = s.regulation := rfl
@[simp] theorem State.raise_target (s : State) (c : Cause) : (s.raise c).target = s.target := rfl
@[simp] theorem State.raise_timebase (s : State) (c : Cause) : (s.raise c).timebase = s.timebase := rfl
@[simp] theorem State.raise_monitor (s : State) (c : Cause) : (s.raise c).monitor = s.monitor := rfl
@[simp] theorem State.raise_faultLog (s : State) (c : Cause) : (s.raise c).faultLog = s.faultLog := rfl
@[simp] theorem State.raise_management (s : State) (c : Cause) : (s.raise c).management = s.management := rfl
@[simp] theorem State.raise_links (s : State) (c : Cause) : (s.raise c).links = s.links := rfl
@[simp] theorem State.raise_rstN (s : State) (c : Cause) : (s.raise c).rstN = s.rstN := rfl
@[simp] theorem State.raise_sampleOwed (s : State) (c : Cause) : (s.raise c).sampleOwed = s.sampleOwed := rfl
@[simp] theorem State.raise_choices (s : State) (c : Cause) : (s.raise c).choices = s.choices := rfl
@[simp] theorem State.raise_pending (s : State) (c : Cause) : (s.raise c).pending = s.pending := rfl

/-! ### `State.clearFlags` -/

@[simp] theorem State.clearFlags_tracker (s : State) (w : Word) : (s.clearFlags w).tracker = s.tracker := rfl
@[simp] theorem State.clearFlags_ports (s : State) (w : Word) : (s.clearFlags w).ports = s.ports := rfl
@[simp] theorem State.clearFlags_admission (s : State) (w : Word) : (s.clearFlags w).admission = s.admission := rfl
@[simp] theorem State.clearFlags_windows (s : State) (w : Word) : (s.clearFlags w).windows = s.windows := rfl
@[simp] theorem State.clearFlags_regulation (s : State) (w : Word) : (s.clearFlags w).regulation = s.regulation := rfl
@[simp] theorem State.clearFlags_target (s : State) (w : Word) : (s.clearFlags w).target = s.target := rfl
@[simp] theorem State.clearFlags_timebase (s : State) (w : Word) : (s.clearFlags w).timebase = s.timebase := rfl
@[simp] theorem State.clearFlags_monitor (s : State) (w : Word) : (s.clearFlags w).monitor = s.monitor := rfl
@[simp] theorem State.clearFlags_faultLog (s : State) (w : Word) : (s.clearFlags w).faultLog = s.faultLog := rfl
@[simp] theorem State.clearFlags_management (s : State) (w : Word) : (s.clearFlags w).management = s.management := rfl
@[simp] theorem State.clearFlags_links (s : State) (w : Word) : (s.clearFlags w).links = s.links := rfl
@[simp] theorem State.clearFlags_rstN (s : State) (w : Word) : (s.clearFlags w).rstN = s.rstN := rfl
@[simp] theorem State.clearFlags_sampleOwed (s : State) (w : Word) : (s.clearFlags w).sampleOwed = s.sampleOwed := rfl
@[simp] theorem State.clearFlags_choices (s : State) (w : Word) : (s.clearFlags w).choices = s.choices := rfl
@[simp] theorem State.clearFlags_pending (s : State) (w : Word) : (s.clearFlags w).pending = s.pending := rfl

/-! ### `State.writeEnables` -/

@[simp] theorem State.writeEnables_tracker (s : State) (w : Word) : (s.writeEnables w).tracker = s.tracker := rfl
@[simp] theorem State.writeEnables_ports (s : State) (w : Word) : (s.writeEnables w).ports = s.ports := rfl
@[simp] theorem State.writeEnables_admission (s : State) (w : Word) : (s.writeEnables w).admission = s.admission := rfl
@[simp] theorem State.writeEnables_windows (s : State) (w : Word) : (s.writeEnables w).windows = s.windows := rfl
@[simp] theorem State.writeEnables_regulation (s : State) (w : Word) : (s.writeEnables w).regulation = s.regulation := rfl
@[simp] theorem State.writeEnables_target (s : State) (w : Word) : (s.writeEnables w).target = s.target := rfl
@[simp] theorem State.writeEnables_timebase (s : State) (w : Word) : (s.writeEnables w).timebase = s.timebase := rfl
@[simp] theorem State.writeEnables_monitor (s : State) (w : Word) : (s.writeEnables w).monitor = s.monitor := rfl
@[simp] theorem State.writeEnables_faultLog (s : State) (w : Word) : (s.writeEnables w).faultLog = s.faultLog := rfl
@[simp] theorem State.writeEnables_management (s : State) (w : Word) : (s.writeEnables w).management = s.management := rfl
@[simp] theorem State.writeEnables_links (s : State) (w : Word) : (s.writeEnables w).links = s.links := rfl
@[simp] theorem State.writeEnables_rstN (s : State) (w : Word) : (s.writeEnables w).rstN = s.rstN := rfl
@[simp] theorem State.writeEnables_sampleOwed (s : State) (w : Word) : (s.writeEnables w).sampleOwed = s.sampleOwed := rfl
@[simp] theorem State.writeEnables_choices (s : State) (w : Word) : (s.writeEnables w).choices = s.choices := rfl
@[simp] theorem State.writeEnables_pending (s : State) (w : Word) : (s.writeEnables w).pending = s.pending := rfl

/-! ### `State.modCounter` -/

@[simp] theorem State.modCounter_tracker (s : State) (c : CounterIdx) (f : Counter → Counter) : (s.modCounter c f).tracker = s.tracker := rfl
@[simp] theorem State.modCounter_ports (s : State) (c : CounterIdx) (f : Counter → Counter) : (s.modCounter c f).ports = s.ports := rfl
@[simp] theorem State.modCounter_admission (s : State) (c : CounterIdx) (f : Counter → Counter) : (s.modCounter c f).admission = s.admission := rfl
@[simp] theorem State.modCounter_windows (s : State) (c : CounterIdx) (f : Counter → Counter) : (s.modCounter c f).windows = s.windows := rfl
@[simp] theorem State.modCounter_regulation (s : State) (c : CounterIdx) (f : Counter → Counter) : (s.modCounter c f).regulation = s.regulation := rfl
@[simp] theorem State.modCounter_target (s : State) (c : CounterIdx) (f : Counter → Counter) : (s.modCounter c f).target = s.target := rfl
@[simp] theorem State.modCounter_timebase (s : State) (c : CounterIdx) (f : Counter → Counter) : (s.modCounter c f).timebase = s.timebase := rfl
@[simp] theorem State.modCounter_faultLog (s : State) (c : CounterIdx) (f : Counter → Counter) : (s.modCounter c f).faultLog = s.faultLog := rfl
@[simp] theorem State.modCounter_interrupts (s : State) (c : CounterIdx) (f : Counter → Counter) : (s.modCounter c f).interrupts = s.interrupts := rfl
@[simp] theorem State.modCounter_management (s : State) (c : CounterIdx) (f : Counter → Counter) : (s.modCounter c f).management = s.management := rfl
@[simp] theorem State.modCounter_links (s : State) (c : CounterIdx) (f : Counter → Counter) : (s.modCounter c f).links = s.links := rfl
@[simp] theorem State.modCounter_rstN (s : State) (c : CounterIdx) (f : Counter → Counter) : (s.modCounter c f).rstN = s.rstN := rfl
@[simp] theorem State.modCounter_sampleOwed (s : State) (c : CounterIdx) (f : Counter → Counter) : (s.modCounter c f).sampleOwed = s.sampleOwed := rfl
@[simp] theorem State.modCounter_choices (s : State) (c : CounterIdx) (f : Counter → Counter) : (s.modCounter c f).choices = s.choices := rfl
@[simp] theorem State.modCounter_pending (s : State) (c : CounterIdx) (f : Counter → Counter) : (s.modCounter c f).pending = s.pending := rfl

/-! ### `State.setBank` -/

@[simp] theorem State.setBank_tracker (s : State) (b : BankState) : (s.setBank b).tracker = s.tracker := rfl
@[simp] theorem State.setBank_ports (s : State) (b : BankState) : (s.setBank b).ports = s.ports := rfl
@[simp] theorem State.setBank_admission (s : State) (b : BankState) : (s.setBank b).admission = s.admission := rfl
@[simp] theorem State.setBank_windows (s : State) (b : BankState) : (s.setBank b).windows = s.windows := rfl
@[simp] theorem State.setBank_regulation (s : State) (b : BankState) : (s.setBank b).regulation = s.regulation := rfl
@[simp] theorem State.setBank_target (s : State) (b : BankState) : (s.setBank b).target = s.target := rfl
@[simp] theorem State.setBank_timebase (s : State) (b : BankState) : (s.setBank b).timebase = s.timebase := rfl
@[simp] theorem State.setBank_faultLog (s : State) (b : BankState) : (s.setBank b).faultLog = s.faultLog := rfl
@[simp] theorem State.setBank_interrupts (s : State) (b : BankState) : (s.setBank b).interrupts = s.interrupts := rfl
@[simp] theorem State.setBank_management (s : State) (b : BankState) : (s.setBank b).management = s.management := rfl
@[simp] theorem State.setBank_links (s : State) (b : BankState) : (s.setBank b).links = s.links := rfl
@[simp] theorem State.setBank_rstN (s : State) (b : BankState) : (s.setBank b).rstN = s.rstN := rfl
@[simp] theorem State.setBank_sampleOwed (s : State) (b : BankState) : (s.setBank b).sampleOwed = s.sampleOwed := rfl
@[simp] theorem State.setBank_choices (s : State) (b : BankState) : (s.setBank b).choices = s.choices := rfl
@[simp] theorem State.setBank_pending (s : State) (b : BankState) : (s.setBank b).pending = s.pending := rfl

/-! ### `State.setStaged` -/

@[simp] theorem State.setStaged_tracker (s : State) (k : Fin 8) (v : Word) : (s.setStaged k v).tracker = s.tracker := rfl
@[simp] theorem State.setStaged_ports (s : State) (k : Fin 8) (v : Word) : (s.setStaged k v).ports = s.ports := rfl
@[simp] theorem State.setStaged_admission (s : State) (k : Fin 8) (v : Word) : (s.setStaged k v).admission = s.admission := rfl
@[simp] theorem State.setStaged_windows (s : State) (k : Fin 8) (v : Word) : (s.setStaged k v).windows = s.windows := rfl
@[simp] theorem State.setStaged_regulation (s : State) (k : Fin 8) (v : Word) : (s.setStaged k v).regulation = s.regulation := rfl
@[simp] theorem State.setStaged_target (s : State) (k : Fin 8) (v : Word) : (s.setStaged k v).target = s.target := rfl
@[simp] theorem State.setStaged_timebase (s : State) (k : Fin 8) (v : Word) : (s.setStaged k v).timebase = s.timebase := rfl
@[simp] theorem State.setStaged_monitor (s : State) (k : Fin 8) (v : Word) : (s.setStaged k v).monitor = s.monitor := rfl
@[simp] theorem State.setStaged_faultLog (s : State) (k : Fin 8) (v : Word) : (s.setStaged k v).faultLog = s.faultLog := rfl
@[simp] theorem State.setStaged_interrupts (s : State) (k : Fin 8) (v : Word) : (s.setStaged k v).interrupts = s.interrupts := rfl
@[simp] theorem State.setStaged_links (s : State) (k : Fin 8) (v : Word) : (s.setStaged k v).links = s.links := rfl
@[simp] theorem State.setStaged_rstN (s : State) (k : Fin 8) (v : Word) : (s.setStaged k v).rstN = s.rstN := rfl
@[simp] theorem State.setStaged_sampleOwed (s : State) (k : Fin 8) (v : Word) : (s.setStaged k v).sampleOwed = s.sampleOwed := rfl
@[simp] theorem State.setStaged_choices (s : State) (k : Fin 8) (v : Word) : (s.setStaged k v).choices = s.choices := rfl
@[simp] theorem State.setStaged_pending (s : State) (k : Fin 8) (v : Word) : (s.setStaged k v).pending = s.pending := rfl

/-! ### `State.setStaging` -/

@[simp] theorem State.setStaging_tracker (s : State) (v : Vector Word 8) : (s.setStaging v).tracker = s.tracker := rfl
@[simp] theorem State.setStaging_ports (s : State) (v : Vector Word 8) : (s.setStaging v).ports = s.ports := rfl
@[simp] theorem State.setStaging_admission (s : State) (v : Vector Word 8) : (s.setStaging v).admission = s.admission := rfl
@[simp] theorem State.setStaging_windows (s : State) (v : Vector Word 8) : (s.setStaging v).windows = s.windows := rfl
@[simp] theorem State.setStaging_regulation (s : State) (v : Vector Word 8) : (s.setStaging v).regulation = s.regulation := rfl
@[simp] theorem State.setStaging_target (s : State) (v : Vector Word 8) : (s.setStaging v).target = s.target := rfl
@[simp] theorem State.setStaging_timebase (s : State) (v : Vector Word 8) : (s.setStaging v).timebase = s.timebase := rfl
@[simp] theorem State.setStaging_monitor (s : State) (v : Vector Word 8) : (s.setStaging v).monitor = s.monitor := rfl
@[simp] theorem State.setStaging_faultLog (s : State) (v : Vector Word 8) : (s.setStaging v).faultLog = s.faultLog := rfl
@[simp] theorem State.setStaging_interrupts (s : State) (v : Vector Word 8) : (s.setStaging v).interrupts = s.interrupts := rfl
@[simp] theorem State.setStaging_links (s : State) (v : Vector Word 8) : (s.setStaging v).links = s.links := rfl
@[simp] theorem State.setStaging_rstN (s : State) (v : Vector Word 8) : (s.setStaging v).rstN = s.rstN := rfl
@[simp] theorem State.setStaging_sampleOwed (s : State) (v : Vector Word 8) : (s.setStaging v).sampleOwed = s.sampleOwed := rfl
@[simp] theorem State.setStaging_choices (s : State) (v : Vector Word 8) : (s.setStaging v).choices = s.choices := rfl
@[simp] theorem State.setStaging_pending (s : State) (v : Vector Word 8) : (s.setStaging v).pending = s.pending := rfl

/-! ### `State.drive` -/

@[simp] theorem State.drive_tracker (s : State) (v : Word) : (s.drive v).tracker = s.tracker := rfl
@[simp] theorem State.drive_ports (s : State) (v : Word) : (s.drive v).ports = s.ports := rfl
@[simp] theorem State.drive_admission (s : State) (v : Word) : (s.drive v).admission = s.admission := rfl
@[simp] theorem State.drive_windows (s : State) (v : Word) : (s.drive v).windows = s.windows := rfl
@[simp] theorem State.drive_regulation (s : State) (v : Word) : (s.drive v).regulation = s.regulation := rfl
@[simp] theorem State.drive_target (s : State) (v : Word) : (s.drive v).target = s.target := rfl
@[simp] theorem State.drive_timebase (s : State) (v : Word) : (s.drive v).timebase = s.timebase := rfl
@[simp] theorem State.drive_monitor (s : State) (v : Word) : (s.drive v).monitor = s.monitor := rfl
@[simp] theorem State.drive_faultLog (s : State) (v : Word) : (s.drive v).faultLog = s.faultLog := rfl
@[simp] theorem State.drive_interrupts (s : State) (v : Word) : (s.drive v).interrupts = s.interrupts := rfl
@[simp] theorem State.drive_links (s : State) (v : Word) : (s.drive v).links = s.links := rfl
@[simp] theorem State.drive_rstN (s : State) (v : Word) : (s.drive v).rstN = s.rstN := rfl
@[simp] theorem State.drive_sampleOwed (s : State) (v : Word) : (s.drive v).sampleOwed = s.sampleOwed := rfl
@[simp] theorem State.drive_choices (s : State) (v : Word) : (s.drive v).choices = s.choices := rfl
@[simp] theorem State.drive_pending (s : State) (v : Word) : (s.drive v).pending = s.pending := rfl

/-! ### `State.writePeriod` -/

@[simp] theorem State.writePeriod_tracker (s : State) (v : Word) : (s.writePeriod v).tracker = s.tracker := rfl
@[simp] theorem State.writePeriod_ports (s : State) (v : Word) : (s.writePeriod v).ports = s.ports := rfl
@[simp] theorem State.writePeriod_admission (s : State) (v : Word) : (s.writePeriod v).admission = s.admission := rfl
@[simp] theorem State.writePeriod_windows (s : State) (v : Word) : (s.writePeriod v).windows = s.windows := rfl
@[simp] theorem State.writePeriod_target (s : State) (v : Word) : (s.writePeriod v).target = s.target := rfl
@[simp] theorem State.writePeriod_timebase (s : State) (v : Word) : (s.writePeriod v).timebase = s.timebase := rfl
@[simp] theorem State.writePeriod_monitor (s : State) (v : Word) : (s.writePeriod v).monitor = s.monitor := rfl
@[simp] theorem State.writePeriod_faultLog (s : State) (v : Word) : (s.writePeriod v).faultLog = s.faultLog := rfl
@[simp] theorem State.writePeriod_interrupts (s : State) (v : Word) : (s.writePeriod v).interrupts = s.interrupts := rfl
@[simp] theorem State.writePeriod_management (s : State) (v : Word) : (s.writePeriod v).management = s.management := rfl
@[simp] theorem State.writePeriod_links (s : State) (v : Word) : (s.writePeriod v).links = s.links := rfl
@[simp] theorem State.writePeriod_rstN (s : State) (v : Word) : (s.writePeriod v).rstN = s.rstN := rfl
@[simp] theorem State.writePeriod_sampleOwed (s : State) (v : Word) : (s.writePeriod v).sampleOwed = s.sampleOwed := rfl
@[simp] theorem State.writePeriod_choices (s : State) (v : Word) : (s.writePeriod v).choices = s.choices := rfl
@[simp] theorem State.writePeriod_pending (s : State) (v : Word) : (s.writePeriod v).pending = s.pending := rfl

/-! ### `State.writePrescaler` -/

@[simp] theorem State.writePrescaler_tracker (s : State) (v : Word) : (s.writePrescaler v).tracker = s.tracker := rfl
@[simp] theorem State.writePrescaler_ports (s : State) (v : Word) : (s.writePrescaler v).ports = s.ports := rfl
@[simp] theorem State.writePrescaler_admission (s : State) (v : Word) : (s.writePrescaler v).admission = s.admission := rfl
@[simp] theorem State.writePrescaler_windows (s : State) (v : Word) : (s.writePrescaler v).windows = s.windows := rfl
@[simp] theorem State.writePrescaler_regulation (s : State) (v : Word) : (s.writePrescaler v).regulation = s.regulation := rfl
@[simp] theorem State.writePrescaler_target (s : State) (v : Word) : (s.writePrescaler v).target = s.target := rfl
@[simp] theorem State.writePrescaler_monitor (s : State) (v : Word) : (s.writePrescaler v).monitor = s.monitor := rfl
@[simp] theorem State.writePrescaler_faultLog (s : State) (v : Word) : (s.writePrescaler v).faultLog = s.faultLog := rfl
@[simp] theorem State.writePrescaler_interrupts (s : State) (v : Word) : (s.writePrescaler v).interrupts = s.interrupts := rfl
@[simp] theorem State.writePrescaler_management (s : State) (v : Word) : (s.writePrescaler v).management = s.management := rfl
@[simp] theorem State.writePrescaler_links (s : State) (v : Word) : (s.writePrescaler v).links = s.links := rfl
@[simp] theorem State.writePrescaler_rstN (s : State) (v : Word) : (s.writePrescaler v).rstN = s.rstN := rfl
@[simp] theorem State.writePrescaler_sampleOwed (s : State) (v : Word) : (s.writePrescaler v).sampleOwed = s.sampleOwed := rfl
@[simp] theorem State.writePrescaler_choices (s : State) (v : Word) : (s.writePrescaler v).choices = s.choices := rfl
@[simp] theorem State.writePrescaler_pending (s : State) (v : Word) : (s.writePrescaler v).pending = s.pending := rfl

/-! ### `State.writeResyncWait` -/

@[simp] theorem State.writeResyncWait_tracker (s : State) (v : Word) : (s.writeResyncWait v).tracker = s.tracker := rfl
@[simp] theorem State.writeResyncWait_ports (s : State) (v : Word) : (s.writeResyncWait v).ports = s.ports := rfl
@[simp] theorem State.writeResyncWait_admission (s : State) (v : Word) : (s.writeResyncWait v).admission = s.admission := rfl
@[simp] theorem State.writeResyncWait_windows (s : State) (v : Word) : (s.writeResyncWait v).windows = s.windows := rfl
@[simp] theorem State.writeResyncWait_regulation (s : State) (v : Word) : (s.writeResyncWait v).regulation = s.regulation := rfl
@[simp] theorem State.writeResyncWait_timebase (s : State) (v : Word) : (s.writeResyncWait v).timebase = s.timebase := rfl
@[simp] theorem State.writeResyncWait_monitor (s : State) (v : Word) : (s.writeResyncWait v).monitor = s.monitor := rfl
@[simp] theorem State.writeResyncWait_faultLog (s : State) (v : Word) : (s.writeResyncWait v).faultLog = s.faultLog := rfl
@[simp] theorem State.writeResyncWait_interrupts (s : State) (v : Word) : (s.writeResyncWait v).interrupts = s.interrupts := rfl
@[simp] theorem State.writeResyncWait_management (s : State) (v : Word) : (s.writeResyncWait v).management = s.management := rfl
@[simp] theorem State.writeResyncWait_links (s : State) (v : Word) : (s.writeResyncWait v).links = s.links := rfl
@[simp] theorem State.writeResyncWait_rstN (s : State) (v : Word) : (s.writeResyncWait v).rstN = s.rstN := rfl
@[simp] theorem State.writeResyncWait_sampleOwed (s : State) (v : Word) : (s.writeResyncWait v).sampleOwed = s.sampleOwed := rfl
@[simp] theorem State.writeResyncWait_choices (s : State) (v : Word) : (s.writeResyncWait v).choices = s.choices := rfl
@[simp] theorem State.writeResyncWait_pending (s : State) (v : Word) : (s.writeResyncWait v).pending = s.pending := rfl

/-! ### `State.writeControl` -/

@[simp] theorem State.writeControl_tracker (s : State) (c : CounterIdx) (w : ControlWord) (v : Word) : (s.writeControl c w v).tracker = s.tracker := rfl
@[simp] theorem State.writeControl_ports (s : State) (c : CounterIdx) (w : ControlWord) (v : Word) : (s.writeControl c w v).ports = s.ports := rfl
@[simp] theorem State.writeControl_admission (s : State) (c : CounterIdx) (w : ControlWord) (v : Word) : (s.writeControl c w v).admission = s.admission := rfl
@[simp] theorem State.writeControl_windows (s : State) (c : CounterIdx) (w : ControlWord) (v : Word) : (s.writeControl c w v).windows = s.windows := rfl
@[simp] theorem State.writeControl_regulation (s : State) (c : CounterIdx) (w : ControlWord) (v : Word) : (s.writeControl c w v).regulation = s.regulation := rfl
@[simp] theorem State.writeControl_target (s : State) (c : CounterIdx) (w : ControlWord) (v : Word) : (s.writeControl c w v).target = s.target := rfl
@[simp] theorem State.writeControl_timebase (s : State) (c : CounterIdx) (w : ControlWord) (v : Word) : (s.writeControl c w v).timebase = s.timebase := rfl
@[simp] theorem State.writeControl_faultLog (s : State) (c : CounterIdx) (w : ControlWord) (v : Word) : (s.writeControl c w v).faultLog = s.faultLog := rfl
@[simp] theorem State.writeControl_interrupts (s : State) (c : CounterIdx) (w : ControlWord) (v : Word) : (s.writeControl c w v).interrupts = s.interrupts := rfl
@[simp] theorem State.writeControl_management (s : State) (c : CounterIdx) (w : ControlWord) (v : Word) : (s.writeControl c w v).management = s.management := rfl
@[simp] theorem State.writeControl_links (s : State) (c : CounterIdx) (w : ControlWord) (v : Word) : (s.writeControl c w v).links = s.links := rfl
@[simp] theorem State.writeControl_rstN (s : State) (c : CounterIdx) (w : ControlWord) (v : Word) : (s.writeControl c w v).rstN = s.rstN := rfl
@[simp] theorem State.writeControl_sampleOwed (s : State) (c : CounterIdx) (w : ControlWord) (v : Word) : (s.writeControl c w v).sampleOwed = s.sampleOwed := rfl
@[simp] theorem State.writeControl_choices (s : State) (c : CounterIdx) (w : ControlWord) (v : Word) : (s.writeControl c w v).choices = s.choices := rfl
@[simp] theorem State.writeControl_pending (s : State) (c : CounterIdx) (w : ControlWord) (v : Word) : (s.writeControl c w v).pending = s.pending := rfl

/-! ### `State.writeCounterHigh` -/

@[simp] theorem State.writeCounterHigh_tracker (s : State) (c : CounterIdx) (v : Word) : (s.writeCounterHigh c v).tracker = s.tracker := rfl
@[simp] theorem State.writeCounterHigh_ports (s : State) (c : CounterIdx) (v : Word) : (s.writeCounterHigh c v).ports = s.ports := rfl
@[simp] theorem State.writeCounterHigh_admission (s : State) (c : CounterIdx) (v : Word) : (s.writeCounterHigh c v).admission = s.admission := rfl
@[simp] theorem State.writeCounterHigh_windows (s : State) (c : CounterIdx) (v : Word) : (s.writeCounterHigh c v).windows = s.windows := rfl
@[simp] theorem State.writeCounterHigh_regulation (s : State) (c : CounterIdx) (v : Word) : (s.writeCounterHigh c v).regulation = s.regulation := rfl
@[simp] theorem State.writeCounterHigh_target (s : State) (c : CounterIdx) (v : Word) : (s.writeCounterHigh c v).target = s.target := rfl
@[simp] theorem State.writeCounterHigh_timebase (s : State) (c : CounterIdx) (v : Word) : (s.writeCounterHigh c v).timebase = s.timebase := rfl
@[simp] theorem State.writeCounterHigh_faultLog (s : State) (c : CounterIdx) (v : Word) : (s.writeCounterHigh c v).faultLog = s.faultLog := rfl
@[simp] theorem State.writeCounterHigh_interrupts (s : State) (c : CounterIdx) (v : Word) : (s.writeCounterHigh c v).interrupts = s.interrupts := rfl
@[simp] theorem State.writeCounterHigh_management (s : State) (c : CounterIdx) (v : Word) : (s.writeCounterHigh c v).management = s.management := rfl
@[simp] theorem State.writeCounterHigh_links (s : State) (c : CounterIdx) (v : Word) : (s.writeCounterHigh c v).links = s.links := rfl
@[simp] theorem State.writeCounterHigh_rstN (s : State) (c : CounterIdx) (v : Word) : (s.writeCounterHigh c v).rstN = s.rstN := rfl
@[simp] theorem State.writeCounterHigh_sampleOwed (s : State) (c : CounterIdx) (v : Word) : (s.writeCounterHigh c v).sampleOwed = s.sampleOwed := rfl
@[simp] theorem State.writeCounterHigh_choices (s : State) (c : CounterIdx) (v : Word) : (s.writeCounterHigh c v).choices = s.choices := rfl
@[simp] theorem State.writeCounterHigh_pending (s : State) (c : CounterIdx) (v : Word) : (s.writeCounterHigh c v).pending = s.pending := rfl

/-! ### `State.writeCounterLow` -/

@[simp] theorem State.writeCounterLow_tracker (s : State) (c : CounterIdx) (v : Word) : (s.writeCounterLow c v).tracker = s.tracker := rfl
@[simp] theorem State.writeCounterLow_ports (s : State) (c : CounterIdx) (v : Word) : (s.writeCounterLow c v).ports = s.ports := rfl
@[simp] theorem State.writeCounterLow_admission (s : State) (c : CounterIdx) (v : Word) : (s.writeCounterLow c v).admission = s.admission := rfl
@[simp] theorem State.writeCounterLow_windows (s : State) (c : CounterIdx) (v : Word) : (s.writeCounterLow c v).windows = s.windows := rfl
@[simp] theorem State.writeCounterLow_regulation (s : State) (c : CounterIdx) (v : Word) : (s.writeCounterLow c v).regulation = s.regulation := rfl
@[simp] theorem State.writeCounterLow_target (s : State) (c : CounterIdx) (v : Word) : (s.writeCounterLow c v).target = s.target := rfl
@[simp] theorem State.writeCounterLow_timebase (s : State) (c : CounterIdx) (v : Word) : (s.writeCounterLow c v).timebase = s.timebase := rfl
@[simp] theorem State.writeCounterLow_faultLog (s : State) (c : CounterIdx) (v : Word) : (s.writeCounterLow c v).faultLog = s.faultLog := rfl
@[simp] theorem State.writeCounterLow_interrupts (s : State) (c : CounterIdx) (v : Word) : (s.writeCounterLow c v).interrupts = s.interrupts := rfl
@[simp] theorem State.writeCounterLow_management (s : State) (c : CounterIdx) (v : Word) : (s.writeCounterLow c v).management = s.management := rfl
@[simp] theorem State.writeCounterLow_links (s : State) (c : CounterIdx) (v : Word) : (s.writeCounterLow c v).links = s.links := rfl
@[simp] theorem State.writeCounterLow_rstN (s : State) (c : CounterIdx) (v : Word) : (s.writeCounterLow c v).rstN = s.rstN := rfl
@[simp] theorem State.writeCounterLow_sampleOwed (s : State) (c : CounterIdx) (v : Word) : (s.writeCounterLow c v).sampleOwed = s.sampleOwed := rfl
@[simp] theorem State.writeCounterLow_choices (s : State) (c : CounterIdx) (v : Word) : (s.writeCounterLow c v).choices = s.choices := rfl
@[simp] theorem State.writeCounterLow_pending (s : State) (c : CounterIdx) (v : Word) : (s.writeCounterLow c v).pending = s.pending := rfl

/-! ### `State.clearOverflows` -/

@[simp] theorem State.clearOverflows_tracker (s : State) (v : Word) : (s.clearOverflows v).tracker = s.tracker := rfl
@[simp] theorem State.clearOverflows_ports (s : State) (v : Word) : (s.clearOverflows v).ports = s.ports := rfl
@[simp] theorem State.clearOverflows_admission (s : State) (v : Word) : (s.clearOverflows v).admission = s.admission := rfl
@[simp] theorem State.clearOverflows_windows (s : State) (v : Word) : (s.clearOverflows v).windows = s.windows := rfl
@[simp] theorem State.clearOverflows_regulation (s : State) (v : Word) : (s.clearOverflows v).regulation = s.regulation := rfl
@[simp] theorem State.clearOverflows_target (s : State) (v : Word) : (s.clearOverflows v).target = s.target := rfl
@[simp] theorem State.clearOverflows_timebase (s : State) (v : Word) : (s.clearOverflows v).timebase = s.timebase := rfl
@[simp] theorem State.clearOverflows_faultLog (s : State) (v : Word) : (s.clearOverflows v).faultLog = s.faultLog := rfl
@[simp] theorem State.clearOverflows_interrupts (s : State) (v : Word) : (s.clearOverflows v).interrupts = s.interrupts := rfl
@[simp] theorem State.clearOverflows_management (s : State) (v : Word) : (s.clearOverflows v).management = s.management := rfl
@[simp] theorem State.clearOverflows_links (s : State) (v : Word) : (s.clearOverflows v).links = s.links := rfl
@[simp] theorem State.clearOverflows_rstN (s : State) (v : Word) : (s.clearOverflows v).rstN = s.rstN := rfl
@[simp] theorem State.clearOverflows_sampleOwed (s : State) (v : Word) : (s.clearOverflows v).sampleOwed = s.sampleOwed := rfl
@[simp] theorem State.clearOverflows_choices (s : State) (v : Word) : (s.clearOverflows v).choices = s.choices := rfl
@[simp] theorem State.clearOverflows_pending (s : State) (v : Word) : (s.clearOverflows v).pending = s.pending := rfl

/-! ### `State.clearCounters` -/

@[simp] theorem State.clearCounters_tracker (s : State) : s.clearCounters.tracker = s.tracker := rfl
@[simp] theorem State.clearCounters_ports (s : State) : s.clearCounters.ports = s.ports := rfl
@[simp] theorem State.clearCounters_admission (s : State) : s.clearCounters.admission = s.admission := rfl
@[simp] theorem State.clearCounters_windows (s : State) : s.clearCounters.windows = s.windows := rfl
@[simp] theorem State.clearCounters_regulation (s : State) : s.clearCounters.regulation = s.regulation := rfl
@[simp] theorem State.clearCounters_target (s : State) : s.clearCounters.target = s.target := rfl
@[simp] theorem State.clearCounters_timebase (s : State) : s.clearCounters.timebase = s.timebase := rfl
@[simp] theorem State.clearCounters_faultLog (s : State) : s.clearCounters.faultLog = s.faultLog := rfl
@[simp] theorem State.clearCounters_interrupts (s : State) : s.clearCounters.interrupts = s.interrupts := rfl
@[simp] theorem State.clearCounters_management (s : State) : s.clearCounters.management = s.management := rfl
@[simp] theorem State.clearCounters_links (s : State) : s.clearCounters.links = s.links := rfl
@[simp] theorem State.clearCounters_rstN (s : State) : s.clearCounters.rstN = s.rstN := rfl
@[simp] theorem State.clearCounters_sampleOwed (s : State) : s.clearCounters.sampleOwed = s.sampleOwed := rfl
@[simp] theorem State.clearCounters_choices (s : State) : s.clearCounters.choices = s.choices := rfl
@[simp] theorem State.clearCounters_pending (s : State) : s.clearCounters.pending = s.pending := rfl

/-! ### `State.clearBins` -/

@[simp] theorem State.clearBins_tracker (s : State) (i : Initiator) : (s.clearBins i).tracker = s.tracker := rfl
@[simp] theorem State.clearBins_ports (s : State) (i : Initiator) : (s.clearBins i).ports = s.ports := rfl
@[simp] theorem State.clearBins_admission (s : State) (i : Initiator) : (s.clearBins i).admission = s.admission := rfl
@[simp] theorem State.clearBins_windows (s : State) (i : Initiator) : (s.clearBins i).windows = s.windows := rfl
@[simp] theorem State.clearBins_regulation (s : State) (i : Initiator) : (s.clearBins i).regulation = s.regulation := rfl
@[simp] theorem State.clearBins_target (s : State) (i : Initiator) : (s.clearBins i).target = s.target := rfl
@[simp] theorem State.clearBins_timebase (s : State) (i : Initiator) : (s.clearBins i).timebase = s.timebase := rfl
@[simp] theorem State.clearBins_faultLog (s : State) (i : Initiator) : (s.clearBins i).faultLog = s.faultLog := rfl
@[simp] theorem State.clearBins_interrupts (s : State) (i : Initiator) : (s.clearBins i).interrupts = s.interrupts := rfl
@[simp] theorem State.clearBins_management (s : State) (i : Initiator) : (s.clearBins i).management = s.management := rfl
@[simp] theorem State.clearBins_links (s : State) (i : Initiator) : (s.clearBins i).links = s.links := rfl
@[simp] theorem State.clearBins_rstN (s : State) (i : Initiator) : (s.clearBins i).rstN = s.rstN := rfl
@[simp] theorem State.clearBins_sampleOwed (s : State) (i : Initiator) : (s.clearBins i).sampleOwed = s.sampleOwed := rfl
@[simp] theorem State.clearBins_choices (s : State) (i : Initiator) : (s.clearBins i).choices = s.choices := rfl
@[simp] theorem State.clearBins_pending (s : State) (i : Initiator) : (s.clearBins i).pending = s.pending := rfl

/-! ### `State.writeHistogramIndex` -/

@[simp] theorem State.writeHistogramIndex_tracker (s : State) (v : Word) : (s.writeHistogramIndex v).tracker = s.tracker := rfl
@[simp] theorem State.writeHistogramIndex_ports (s : State) (v : Word) : (s.writeHistogramIndex v).ports = s.ports := rfl
@[simp] theorem State.writeHistogramIndex_admission (s : State) (v : Word) : (s.writeHistogramIndex v).admission = s.admission := rfl
@[simp] theorem State.writeHistogramIndex_windows (s : State) (v : Word) : (s.writeHistogramIndex v).windows = s.windows := rfl
@[simp] theorem State.writeHistogramIndex_regulation (s : State) (v : Word) : (s.writeHistogramIndex v).regulation = s.regulation := rfl
@[simp] theorem State.writeHistogramIndex_target (s : State) (v : Word) : (s.writeHistogramIndex v).target = s.target := rfl
@[simp] theorem State.writeHistogramIndex_timebase (s : State) (v : Word) : (s.writeHistogramIndex v).timebase = s.timebase := rfl
@[simp] theorem State.writeHistogramIndex_monitor (s : State) (v : Word) : (s.writeHistogramIndex v).monitor = s.monitor := rfl
@[simp] theorem State.writeHistogramIndex_faultLog (s : State) (v : Word) : (s.writeHistogramIndex v).faultLog = s.faultLog := rfl
@[simp] theorem State.writeHistogramIndex_interrupts (s : State) (v : Word) : (s.writeHistogramIndex v).interrupts = s.interrupts := rfl
@[simp] theorem State.writeHistogramIndex_links (s : State) (v : Word) : (s.writeHistogramIndex v).links = s.links := rfl
@[simp] theorem State.writeHistogramIndex_rstN (s : State) (v : Word) : (s.writeHistogramIndex v).rstN = s.rstN := rfl
@[simp] theorem State.writeHistogramIndex_sampleOwed (s : State) (v : Word) : (s.writeHistogramIndex v).sampleOwed = s.sampleOwed := rfl
@[simp] theorem State.writeHistogramIndex_choices (s : State) (v : Word) : (s.writeHistogramIndex v).choices = s.choices := rfl
@[simp] theorem State.writeHistogramIndex_pending (s : State) (v : Word) : (s.writeHistogramIndex v).pending = s.pending := rfl

/-! ### `State.writeArgument` -/

@[simp] theorem State.writeArgument_tracker (s : State) (v : Word) : (s.writeArgument v).tracker = s.tracker := rfl
@[simp] theorem State.writeArgument_ports (s : State) (v : Word) : (s.writeArgument v).ports = s.ports := rfl
@[simp] theorem State.writeArgument_admission (s : State) (v : Word) : (s.writeArgument v).admission = s.admission := rfl
@[simp] theorem State.writeArgument_windows (s : State) (v : Word) : (s.writeArgument v).windows = s.windows := rfl
@[simp] theorem State.writeArgument_regulation (s : State) (v : Word) : (s.writeArgument v).regulation = s.regulation := rfl
@[simp] theorem State.writeArgument_target (s : State) (v : Word) : (s.writeArgument v).target = s.target := rfl
@[simp] theorem State.writeArgument_timebase (s : State) (v : Word) : (s.writeArgument v).timebase = s.timebase := rfl
@[simp] theorem State.writeArgument_monitor (s : State) (v : Word) : (s.writeArgument v).monitor = s.monitor := rfl
@[simp] theorem State.writeArgument_faultLog (s : State) (v : Word) : (s.writeArgument v).faultLog = s.faultLog := rfl
@[simp] theorem State.writeArgument_interrupts (s : State) (v : Word) : (s.writeArgument v).interrupts = s.interrupts := rfl
@[simp] theorem State.writeArgument_links (s : State) (v : Word) : (s.writeArgument v).links = s.links := rfl
@[simp] theorem State.writeArgument_rstN (s : State) (v : Word) : (s.writeArgument v).rstN = s.rstN := rfl
@[simp] theorem State.writeArgument_sampleOwed (s : State) (v : Word) : (s.writeArgument v).sampleOwed = s.sampleOwed := rfl
@[simp] theorem State.writeArgument_choices (s : State) (v : Word) : (s.writeArgument v).choices = s.choices := rfl
@[simp] theorem State.writeArgument_pending (s : State) (v : Word) : (s.writeArgument v).pending = s.pending := rfl

/-! ### `State.unqueue` -/

@[simp] theorem State.unqueue_tracker (s : State) (x : EntryIdx) : (s.unqueue x).tracker = s.tracker := rfl
@[simp] theorem State.unqueue_ports (s : State) (x : EntryIdx) : (s.unqueue x).ports = s.ports := rfl
@[simp] theorem State.unqueue_admission (s : State) (x : EntryIdx) : (s.unqueue x).admission = s.admission := rfl
@[simp] theorem State.unqueue_windows (s : State) (x : EntryIdx) : (s.unqueue x).windows = s.windows := rfl
@[simp] theorem State.unqueue_regulation (s : State) (x : EntryIdx) : (s.unqueue x).regulation = s.regulation := rfl
@[simp] theorem State.unqueue_timebase (s : State) (x : EntryIdx) : (s.unqueue x).timebase = s.timebase := rfl
@[simp] theorem State.unqueue_monitor (s : State) (x : EntryIdx) : (s.unqueue x).monitor = s.monitor := rfl
@[simp] theorem State.unqueue_faultLog (s : State) (x : EntryIdx) : (s.unqueue x).faultLog = s.faultLog := rfl
@[simp] theorem State.unqueue_interrupts (s : State) (x : EntryIdx) : (s.unqueue x).interrupts = s.interrupts := rfl
@[simp] theorem State.unqueue_management (s : State) (x : EntryIdx) : (s.unqueue x).management = s.management := rfl
@[simp] theorem State.unqueue_links (s : State) (x : EntryIdx) : (s.unqueue x).links = s.links := rfl
@[simp] theorem State.unqueue_rstN (s : State) (x : EntryIdx) : (s.unqueue x).rstN = s.rstN := rfl
@[simp] theorem State.unqueue_sampleOwed (s : State) (x : EntryIdx) : (s.unqueue x).sampleOwed = s.sampleOwed := rfl
@[simp] theorem State.unqueue_choices (s : State) (x : EntryIdx) : (s.unqueue x).choices = s.choices := rfl
@[simp] theorem State.unqueue_pending (s : State) (x : EntryIdx) : (s.unqueue x).pending = s.pending := rfl

/-! ### `State.closePort` -/

@[simp] theorem State.closePort_tracker (s : State) (i : Initiator) (p : PortState) : (s.closePort i p).tracker = s.tracker := rfl
@[simp] theorem State.closePort_windows (s : State) (i : Initiator) (p : PortState) : (s.closePort i p).windows = s.windows := rfl
@[simp] theorem State.closePort_regulation (s : State) (i : Initiator) (p : PortState) : (s.closePort i p).regulation = s.regulation := rfl
@[simp] theorem State.closePort_target (s : State) (i : Initiator) (p : PortState) : (s.closePort i p).target = s.target := rfl
@[simp] theorem State.closePort_timebase (s : State) (i : Initiator) (p : PortState) : (s.closePort i p).timebase = s.timebase := rfl
@[simp] theorem State.closePort_monitor (s : State) (i : Initiator) (p : PortState) : (s.closePort i p).monitor = s.monitor := rfl
@[simp] theorem State.closePort_faultLog (s : State) (i : Initiator) (p : PortState) : (s.closePort i p).faultLog = s.faultLog := rfl
@[simp] theorem State.closePort_interrupts (s : State) (i : Initiator) (p : PortState) : (s.closePort i p).interrupts = s.interrupts := rfl
@[simp] theorem State.closePort_management (s : State) (i : Initiator) (p : PortState) : (s.closePort i p).management = s.management := rfl
@[simp] theorem State.closePort_links (s : State) (i : Initiator) (p : PortState) : (s.closePort i p).links = s.links := rfl
@[simp] theorem State.closePort_rstN (s : State) (i : Initiator) (p : PortState) : (s.closePort i p).rstN = s.rstN := rfl
@[simp] theorem State.closePort_sampleOwed (s : State) (i : Initiator) (p : PortState) : (s.closePort i p).sampleOwed = s.sampleOwed := rfl
@[simp] theorem State.closePort_choices (s : State) (i : Initiator) (p : PortState) : (s.closePort i p).choices = s.choices := rfl
@[simp] theorem State.closePort_pending (s : State) (i : Initiator) (p : PortState) : (s.closePort i p).pending = s.pending := rfl

/-! ### What the updates write -/

@[simp] theorem State.clearFlags_enables (s : State) (w : Word) : (s.clearFlags w).interrupts.enables = s.interrupts.enables := rfl
@[simp] theorem State.raise_enables (s : State) (c : Cause) : (s.raise c).interrupts.enables = s.interrupts.enables := rfl
@[simp] theorem State.writeEnables_flags (s : State) (w : Word) : (s.writeEnables w).interrupts.flags = s.interrupts.flags := rfl
@[simp] theorem State.setBank_bank (s : State) (b : BankState) : (s.setBank b).monitor.bank = b := rfl
@[simp] theorem State.setBank_counters (s : State) (b : BankState) : (s.setBank b).monitor.counters = s.monitor.counters := rfl
@[simp] theorem State.setBank_edges (s : State) (b : BankState) : (s.setBank b).monitor.edges = s.monitor.edges := rfl
@[simp] theorem State.setBank_bins (s : State) (b : BankState) : (s.setBank b).monitor.bins = s.monitor.bins := rfl
@[simp] theorem State.modCounter_bank (s : State) (c : CounterIdx) (f : Counter → Counter) :
    (s.modCounter c f).monitor.bank = s.monitor.bank := rfl
@[simp] theorem State.modCounter_edges (s : State) (c : CounterIdx) (f : Counter → Counter) :
    (s.modCounter c f).monitor.edges = s.monitor.edges := rfl
@[simp] theorem State.modCounter_bins (s : State) (c : CounterIdx) (f : Counter → Counter) :
    (s.modCounter c f).monitor.bins = s.monitor.bins := rfl
@[simp] theorem State.setHead_profiles (s : State) (i : Initiator) (h : HeadStatus) :
    (s.setHead i h).admission.profiles = s.admission.profiles := rfl
@[simp] theorem State.setHead_highPointer (s : State) (i : Initiator) (h : HeadStatus) :
    (s.setHead i h).admission.highPointer = s.admission.highPointer := rfl
@[simp] theorem State.setHead_normalPointer (s : State) (i : Initiator) (h : HeadStatus) :
    (s.setHead i h).admission.normalPointer = s.admission.normalPointer := rfl
@[simp] theorem State.setRemaining_period (s : State) (i : Initiator) (n : Nat) :
    (s.setRemaining i n).regulation.period = s.regulation.period := rfl
@[simp] theorem State.setRemaining_timer (s : State) (i : Initiator) (n : Nat) :
    (s.setRemaining i n).regulation.timer = s.regulation.timer := rfl
@[simp] theorem State.send_toTarget (s : State) (i : Initiator) (m : ToInitiator) :
    (s.send i m).links.toTarget = s.links.toTarget := rfl
@[simp] theorem State.sendTarget_toInitiator (s : State) (m : ToTarget) :
    (s.sendTarget m).links.toInitiator = s.links.toInitiator := rfl
@[simp] theorem State.sendTarget_toTarget (s : State) (m : ToTarget) :
    (s.sendTarget m).links.toTarget = s.links.toTarget ++ [m] := rfl
@[simp] theorem State.writeArgument_argument (s : State) (v : Word) : (s.writeArgument v).management.argument = v := rfl
@[simp] theorem State.drive_busData (s : State) (v : Word) : (s.drive v).management.busData = some v := rfl

/-! ### RST_N (R195) -/

@[simp] theorem State.outOfReset_high (s : State) (f : State → State) (h : s.rstN = true) : s.outOfReset f = f s := if_pos h
@[simp] theorem State.outOfReset_low (s : State) (f : State → State) (h : s.rstN = false) : s.outOfReset f = s := by
  simp [State.outOfReset, h]
@[simp] theorem State.deviceReset_rstN (s : State) : s.deviceReset.rstN = !s.rstN := rfl
@[simp] theorem State.deviceReset_links (s : State) : s.deviceReset.links = s.links := rfl
@[simp] theorem State.deviceReset_choices (s : State) : s.deviceReset.choices = s.choices := rfl
@[simp] theorem State.deviceReset_pending (s : State) : s.deviceReset.pending = s.pending := rfl

/-- Everything a change of RST_N does (R195): the reset values, the other level, and what log entry 5 keeps. -/
theorem State.deviceReset_eq (s : State) :
    s.deviceReset = { State.reset with rstN := !s.rstN, links := s.links, choices := s.choices, pending := s.pending } := rfl

end Sys2Proof.Machine
end

