-- ==== Sys2Proof/Laws/Access.lean ====
section
/-!
SUPPORT. What each accessor reads after each update of the table it reads: the place written, and every other place.
-/

namespace Sys2Proof.Machine

theorem updateAt_get {α : Type} {n : Nat} (v : Vector α n) (i j : Fin n) (f : α → α) :
    (updateAt v i f)[j] = if i = j then f v[j] else v[j] := by
  simp only [updateAt, Fin.getElem_fin, Vector.getElem_set, Fin.ext_iff]
  split <;> simp_all

theorem set_get {α : Type} {n : Nat} (v : Vector α n) (i j : Fin n) (a : α) :
    (v.set i a)[j] = if i = j then a else v[j] := by
  simp only [Fin.getElem_fin, Vector.getElem_set, Fin.ext_iff]

theorem ofFn_get {α : Type} {n : Nat} (f : Fin n → α) (j : Fin n) : (Vector.ofFn f)[j] = f j := by
  simp only [Fin.getElem_fin, Vector.getElem_ofFn]

/-! ### Entries -/

theorem entry_setEntry (s : State) (x y : EntryIdx) (e : Option Entry) :
    (s.setEntry x e).entry y = if x = y then e else s.entry y := by
  simp only [State.entry, State.setEntry, set_get]

theorem entry_mapEntries (s : State) (f : EntryIdx → Option Entry → Option Entry) (y : EntryIdx) :
    (s.mapEntries f).entry y = f y (s.entry y) := by
  simp only [State.entry, State.mapEntries, ofFn_get]

theorem entry_of_tracker {s t : State} (h : t.tracker = s.tracker) (x : EntryIdx) : t.entry x = s.entry x := by
  simp only [State.entry, h]

theorem countEntries_of_tracker {s t : State} (h : t.tracker = s.tracker) (p : Entry → Bool) :
    t.countEntries p = s.countEntries p := by
  simp only [State.countEntries, State.entry, h]

theorem inUse_of_tracker {s t : State} (h : t.tracker = s.tracker) (i : Initiator) : t.inUse i = s.inUse i :=
  countEntries_of_tracker h _

theorem outstanding_of_tracker {s t : State} (h : t.tracker = s.tracker) (i : Initiator) :
    t.outstanding i = s.outstanding i :=
  countEntries_of_tracker h _

theorem detachedCount_of_tracker {s t : State} (h : t.tracker = s.tracker) : t.detachedCount = s.detachedCount :=
  countEntries_of_tracker h _

theorem freeCount_of_tracker {s t : State} (h : t.tracker = s.tracker) : t.freeCount = s.freeCount := by
  simp only [State.freeCount, funext fun i => inUse_of_tracker h i]

/-! ### Ports, heads, profiles, budgets -/

theorem port_modPort (s : State) (i j : Initiator) (f : Port → Port) :
    (s.modPort i f).port j = if i = j then f (s.port j) else s.port j := by
  simp only [State.port, State.modPort, updateAt_get]

theorem head_setHead (s : State) (i j : Initiator) (h : HeadStatus) :
    (s.setHead i h).head j = if i = j then h else s.head j := by
  simp only [State.head, State.setHead, set_get]

theorem remaining_setRemaining (s : State) (i j : Initiator) (n : Nat) :
    (s.setRemaining i n).remaining j = if i = j then n else s.remaining j := by
  simp only [State.remaining, State.setRemaining, set_get]

theorem port_of_ports {s t : State} (h : t.ports = s.ports) (i : Initiator) : t.port i = s.port i := by
  simp only [State.port, h]

theorem profile_of_admission {s t : State} (h : t.admission.profiles = s.admission.profiles) (i : Initiator) :
    t.profile i = s.profile i := by
  simp only [State.profile, h]

@[simp] theorem profile_setHead (s : State) (i j : Initiator) (h : HeadStatus) : (s.setHead i h).profile j = s.profile j := rfl

@[simp] theorem head_modPort (s : State) (i j : Initiator) (f : Port → Port) : (s.modPort i f).head j = s.head j := rfl

@[simp] theorem port_setHead (s : State) (i j : Initiator) (h : HeadStatus) : (s.setHead i h).port j = s.port j := rfl

@[simp] theorem entry_setHead (s : State) (i : Initiator) (x : EntryIdx) (h : HeadStatus) : (s.setHead i h).entry x = s.entry x := rfl

@[simp] theorem entry_modPort (s : State) (i : Initiator) (x : EntryIdx) (f : Port → Port) : (s.modPort i f).entry x = s.entry x := rfl

/-! ### Messages -/

theorem sentTo_send (s : State) (i j : Initiator) (m : ToInitiator) :
    (s.send i m).sentTo j = if i = j then s.sentTo j ++ [m] else s.sentTo j := by
  simp only [State.sentTo, State.send, updateAt_get]

@[simp] theorem sentTo_sendTarget (s : State) (j : Initiator) (m : ToTarget) : (s.sendTarget m).sentTo j = s.sentTo j := rfl

theorem port_returnCredit (s : State) (i j : Initiator) :
    (s.returnCredit i).port j = if i = j then { s.port j with granted := (s.port j).granted + 1 } else s.port j :=
  port_modPort s i j _

theorem sentTo_returnCredit (s : State) (i j : Initiator) :
    (s.returnCredit i).sentTo j = if i = j then s.sentTo j ++ [.credit 1] else s.sentTo j :=
  sentTo_send (s.modPort i _) i j _

/-! ### Counters and staging -/

theorem counter_modCounter (s : State) (c d : CounterIdx) (f : Counter → Counter) :
    (s.modCounter c f).counter d = if c = d then f (s.counter d) else s.counter d := by
  simp only [State.counter, State.modCounter, updateAt_get]

@[simp] theorem counter_setBank (s : State) (b : BankState) (d : CounterIdx) : (s.setBank b).counter d = s.counter d := rfl

@[simp] theorem counter_raise (s : State) (c : Cause) (d : CounterIdx) : (s.raise c).counter d = s.counter d := rfl

theorem staged_setStaged (s : State) (k j : Fin 8) (v : Word) :
    (s.setStaged k v).staged j = if k = j then v else s.staged j := by
  simp only [State.staged, State.setStaged, set_get]

@[simp] theorem staged_setStaging (s : State) (k : Fin 8) (v : Vector Word 8) : (s.setStaging v).staged k = v[k] := rfl

/-! ### Interrupt flags -/

theorem Cause.place_lt (c : Cause) : c.place < 15 := by
  cases c <;> simp only [Cause.place] <;> omega

theorem Cause.place_injective {c d : Cause} (h : c.place = d.place) : c = d := by
  cases c <;> cases d <;> simp only [Cause.place] at h <;> first | rfl | (congr 1; exact Fin.ext (by omega)) | omega

theorem flag_raise (s : State) (c d : Cause) : (s.raise c).flag d = (s.flag d || decide (d = c)) := by
  have hd := Cause.place_lt d
  simp only [State.flag, State.raise, Cause.mask, BitVec.getLsbD_or, BitVec.getLsbD_twoPow]
  congr 1
  by_cases h : d = c
  · subst h; simp [hd]
  · have : c.place ≠ d.place := fun e => h (Cause.place_injective e.symm)
    simp [h, this]

theorem flag_clearFlags (s : State) (w : Word) (d : Cause) :
    (s.clearFlags w).flag d = (s.flag d && !w.getLsbD d.place) := by
  have hd := Cause.place_lt d
  simp [State.flag, State.clearFlags, hd]

theorem flag_of_interrupts {s t : State} (h : t.interrupts = s.interrupts) (c : Cause) : t.flag c = s.flag c := by
  simp only [State.flag, h]

end Sys2Proof.Machine
end

