-- ==== Sys2Proof/Laws/Monitor.lean ====
section
/-!
SUPPORT. What the monitor's operations can change: counter values, overflow flags, EDGE memories, the bank, the bins, COUNTER_OVF,
and the model's own count of free orders. Everything else is kept, whatever the order of the adds.
-/

namespace Sys2Proof.Machine

/-- From `s` to `t` only what the monitor's own events may change has changed. -/
structure OnlyMonitor (s t : State) : Prop where
  eq : ∃ m f k, t = { s with monitor := m, interrupts := { s.interrupts with flags := f }, choices := k }
  edges : t.monitor.edges = s.monitor.edges
  control : ∀ c, (t.counter c).control = (s.counter c).control
  readHolding : ∀ c, (t.counter c).readHolding = (s.counter c).readHolding
  writeHolding : ∀ c, (t.counter c).writeHolding = (s.counter c).writeHolding
  flag : ∀ c, c ≠ Cause.counterOvf → t.flag c = s.flag c

namespace OnlyMonitor

theorem refl (s : State) : OnlyMonitor s s :=
  ⟨⟨s.monitor, s.interrupts.flags, s.choices, rfl⟩, rfl, fun _ => rfl, fun _ => rfl, fun _ => rfl, fun _ _ => rfl⟩

theorem trans {s t u : State} (h : OnlyMonitor s t) (k : OnlyMonitor t u) : OnlyMonitor s u := by
  obtain ⟨⟨m, f, n, h0⟩, h1, h2, h3, h4, h5⟩ := h
  obtain ⟨⟨m', f', n', k0⟩, k1, k2, k3, k4, k5⟩ := k
  refine ⟨⟨m', f', n', ?_⟩, k1.trans h1, fun c => (k2 c).trans (h2 c), fun c => (k3 c).trans (h3 c),
    fun c => (k4 c).trans (h4 c), fun c hc => (k5 c hc).trans (h5 c hc)⟩
  rw [k0, h0]

section
variable {s t : State} (h : OnlyMonitor s t)
include h

theorem tracker : t.tracker = s.tracker := by obtain ⟨m, f, k, e⟩ := h.eq; rw [e]
theorem ports : t.ports = s.ports := by obtain ⟨m, f, k, e⟩ := h.eq; rw [e]
theorem admission : t.admission = s.admission := by obtain ⟨m, f, k, e⟩ := h.eq; rw [e]
theorem windows : t.windows = s.windows := by obtain ⟨m, f, k, e⟩ := h.eq; rw [e]
theorem regulation : t.regulation = s.regulation := by obtain ⟨m, f, k, e⟩ := h.eq; rw [e]
theorem target : t.target = s.target := by obtain ⟨m, f, k, e⟩ := h.eq; rw [e]
theorem timebase : t.timebase = s.timebase := by obtain ⟨m, f, k, e⟩ := h.eq; rw [e]
theorem faultLog : t.faultLog = s.faultLog := by obtain ⟨m, f, k, e⟩ := h.eq; rw [e]
theorem enables : t.interrupts.enables = s.interrupts.enables := by obtain ⟨m, f, k, e⟩ := h.eq; rw [e]
theorem management : t.management = s.management := by obtain ⟨m, f, k, e⟩ := h.eq; rw [e]
theorem links : t.links = s.links := by obtain ⟨m, f, k, e⟩ := h.eq; rw [e]
theorem rstN : t.rstN = s.rstN := by obtain ⟨m, f, k, e⟩ := h.eq; rw [e]
theorem sampleOwed : t.sampleOwed = s.sampleOwed := by obtain ⟨m, f, k, e⟩ := h.eq; rw [e]
theorem pending : t.pending = s.pending := by obtain ⟨m, f, k, e⟩ := h.eq; rw [e]

end

/-- Events that change the monitor alone, taken one after another. -/
theorem foldl {α : Type} (f : State → α → State) (hf : ∀ s a, OnlyMonitor s (f s a)) (l : List α) (s : State) :
    OnlyMonitor s (l.foldl f s) := by
  induction l generalizing s with
  | nil => exact refl s
  | cons a l ih => exact (hf s a).trans (ih _)

end OnlyMonitor

theorem modCounter_onlyMonitor (s : State) (c : CounterIdx) (f : Counter → Counter)
    (h : ∀ k : Counter, (f k).control = k.control ∧ (f k).readHolding = k.readHolding ∧ (f k).writeHolding = k.writeHolding) :
    OnlyMonitor s (s.modCounter c f) := by
  refine ⟨⟨_, s.interrupts.flags, s.choices, rfl⟩, rfl, fun d => ?_, fun d => ?_, fun d => ?_, fun _ _ => rfl⟩ <;>
    (rw [counter_modCounter]; split <;> simp [h])

theorem setBank_onlyMonitor (s : State) (b : BankState) : OnlyMonitor s (s.setBank b) :=
  ⟨⟨_, s.interrupts.flags, s.choices, rfl⟩, rfl, fun _ => rfl, fun _ => rfl, fun _ => rfl, fun _ _ => rfl⟩

theorem raise_counterOvf_onlyMonitor (s : State) : OnlyMonitor s (s.raise .counterOvf) :=
  ⟨⟨s.monitor, _, s.choices, rfl⟩, rfl, fun _ => rfl, fun _ => rfl, fun _ => rfl, fun c hc => by simp [flag_raise, hc]⟩

theorem choose_onlyMonitor (s : State) (n : Nat) : OnlyMonitor s { s with choices := n } :=
  ⟨⟨s.monitor, s.interrupts.flags, n, rfl⟩, rfl, fun _ => rfl, fun _ => rfl, fun _ => rfl, fun _ _ => rfl⟩

/-- An add (R162) changes the monitor alone. -/
theorem addTo_onlyMonitor (s : State) (c : CounterIdx) (n : Nat) : OnlyMonitor s (s.addTo c n) := by
  unfold State.addTo
  simp only
  split
  · exact modCounter_onlyMonitor s c _ fun _ => ⟨rfl, rfl, rfl⟩
  · refine OnlyMonitor.trans (modCounter_onlyMonitor s c
      (fun k => { k with value := BitVec.ofNat 32 ((s.counter c).value.toNat + n), overflow := true })
      fun _ => ⟨rfl, rfl, rfl⟩) ?_
    split <;> split
    · exact (raise_counterOvf_onlyMonitor _).trans (setBank_onlyMonitor _ _)
    · exact setBank_onlyMonitor _ _
    · exact raise_counterOvf_onlyMonitor _
    · exact OnlyMonitor.refl _

theorem offer_onlyMonitor (s : State) (c : CounterIdx) (r : Report) : OnlyMonitor s (s.offer c r) := by
  unfold State.offer
  split
  · exact addTo_onlyMonitor s c r.amount
  · exact OnlyMonitor.refl s

theorem binLatency_onlyMonitor (s : State) (i : Initiator) (n : Tick) : OnlyMonitor s (s.binLatency i n) := by
  unfold State.binLatency
  split
  · exact ⟨⟨_, s.interrupts.flags, s.choices, rfl⟩, rfl, fun _ => rfl, fun _ => rfl, fun _ => rfl, fun _ _ => rfl⟩
  · exact OnlyMonitor.refl s

/-- Whatever order the free value gives, events that each change the monitor alone change it alone together (R164). -/
theorem inAnyOrder_onlyMonitor (s : State) (f : Option CounterIdx → State → State)
    (hf : ∀ k t, OnlyMonitor t (f k t)) : OnlyMonitor s (s.inAnyOrder f) := by
  unfold State.inAnyOrder
  split
  · exact (choose_onlyMonitor s _).trans (OnlyMonitor.foldl _ (fun t k => hf k t) _ _)
  · exact OnlyMonitor.foldl _ (fun t k => hf k t) _ _

/-- A report changes the monitor alone. -/
theorem report_onlyMonitor (s : State) (rs : List Report) (l : Option (Initiator × Tick)) : OnlyMonitor s (s.report rs l) := by
  refine inAnyOrder_onlyMonitor s _ fun k t => ?_
  cases k with
  | some c => exact OnlyMonitor.foldl _ (fun t r => offer_onlyMonitor t c r) rs t
  | none =>
    cases l with
    | some p => exact binLatency_onlyMonitor t p.1 p.2
    | none => exact OnlyMonitor.refl t

theorem sample_onlyMonitor (s : State) (c : CounterIdx) : OnlyMonitor s (s.sample c) := by
  unfold State.sample
  simp only
  split
  · split
    · split
      · refine OnlyMonitor.trans ?_ (addTo_onlyMonitor _ _ _)
        split
        · exact modCounter_onlyMonitor s c _ fun _ => ⟨rfl, rfl, rfl⟩
        · exact OnlyMonitor.refl s
      · exact OnlyMonitor.refl s
    · exact OnlyMonitor.refl s
  · exact OnlyMonitor.refl s

/-- The samples of a tick change the monitor alone. -/
theorem sampleAll_onlyMonitor (s : State) : OnlyMonitor s s.sampleAll := by
  refine inAnyOrder_onlyMonitor s _ fun k t => ?_
  cases k with
  | some c => exact sample_onlyMonitor t c
  | none => exact OnlyMonitor.refl t

/-- A counter the bank's freeze or its own control keeps from a report is not touched by the offer (R157, R163). -/
theorem offer_of_not_taken (s : State) (c : CounterIdx) (r : Report)
    (h : s.monitor.bank = .frozen ∨ (s.counter c).control.takes r = false) : s.offer c r = s := by
  unfold State.offer
  rcases h with h | h <;> simp [h]

/-- An offer to one counter leaves every other counter as it is. -/
theorem counter_offer_of_ne (s : State) (c d : CounterIdx) (r : Report) (h : c ≠ d) :
    (s.offer c r).counter d = s.counter d := by
  unfold State.offer State.addTo
  simp only
  repeat' split
  all_goals simp [counter_modCounter, h]

/-- What holds at the start, whatever the count of free orders, and is kept by every item, holds after them all in any order. -/
theorem inAnyOrder_induction (s : State) (f : Option CounterIdx → State → State) (P : State → Prop)
    (h0 : ∀ n, P { s with choices := n }) (hf : ∀ k t, P t → P (f k t)) : P (s.inAnyOrder f) := by
  have fold : ∀ (l : List (Option CounterIdx)) (t : State), P t → P (l.foldl (fun t k => f k t) t) := by
    intro l
    induction l with
    | nil => exact fun _ h => h
    | cons k l ih => exact fun t h => ih _ (hf k t h)
  unfold State.inAnyOrder
  split
  · exact fold _ _ (h0 _)
  · exact fold _ _ (h0 s.choices)

theorem addTo_bins (s : State) (c : CounterIdx) (n : Nat) : (s.addTo c n).monitor.bins = s.monitor.bins := by
  unfold State.addTo
  simp only
  repeat' split
  all_goals rfl

theorem addTo_edgeMemory (s : State) (c d : CounterIdx) (n : Nat) :
    ((s.addTo c n).counter d).edgeMemory = (s.counter d).edgeMemory := by
  unfold State.addTo
  simp only
  repeat' split
  all_goals (simp only [counter_raise, counter_setBank, counter_modCounter]; split <;> rfl)

theorem offer_bins (s : State) (c : CounterIdx) (r : Report) : (s.offer c r).monitor.bins = s.monitor.bins := by
  unfold State.offer
  split
  · exact addTo_bins s c r.amount
  · rfl

theorem offer_edgeMemory (s : State) (c d : CounterIdx) (r : Report) :
    ((s.offer c r).counter d).edgeMemory = (s.counter d).edgeMemory := by
  unfold State.offer
  split
  · exact addTo_edgeMemory s c d r.amount
  · rfl

/-- A report without a latency leaves every bin. -/
theorem report_bins (s : State) (rs : List Report) : (s.report rs).monitor.bins = s.monitor.bins := by
  refine inAnyOrder_induction s _ (fun t => t.monitor.bins = s.monitor.bins) (fun _ => rfl) fun k t ht => ?_
  cases k with
  | none => exact ht
  | some c =>
    simp only
    induction rs generalizing t with
    | nil => exact ht
    | cons r rs ih => exact ih _ ((offer_bins t c r).trans ht)

/-- A report leaves every EDGE memory. -/
theorem report_edgeMemory (s : State) (rs : List Report) (l : Option (Initiator × Tick)) (d : CounterIdx) :
    ((s.report rs l).counter d).edgeMemory = (s.counter d).edgeMemory := by
  refine inAnyOrder_induction s _ (fun t => (t.counter d).edgeMemory = (s.counter d).edgeMemory) (fun _ => rfl) fun k t ht => ?_
  cases k with
  | none =>
    simp only
    split
    · unfold State.binLatency; split <;> exact ht
    · exact ht
  | some c =>
    simp only
    induction rs generalizing t with
    | nil => exact ht
    | cons r rs ih => exact ih _ ((offer_edgeMemory t c d r).trans ht)

/-- While no add can freeze the bank, the adds of one report are taken in the fixed order (log entry 1). -/
theorem inAnyOrder_of_calm (s : State) (f : Option CounterIdx → State → State) (h : s.monitor.mayFreeze = false) :
    s.inAnyOrder f = monitorItems.foldl (fun t k => f k t) s := by
  unfold State.inAnyOrder
  simp [h]

end Sys2Proof.Machine
end

