-- ==== Sys2Proof/Laws/Admission.lean ====
section
/-!
SUPPORT. What a head check and a re-check can change (R53, R57, R60, R61), and on what the five checks depend (R54).
-/

namespace Sys2Proof.Machine

/-! ### What the checks read -/

theorem lookup_congr {s t : State} (h : t.windows = s.windows) (line : Nat) : t.lookup line = s.lookup line := by
  simp only [State.lookup, h]

theorem quotaAllows_congr {s t : State} (h : t.tracker = s.tracker) (hp : t.admission.profiles = s.admission.profiles)
    (i : Initiator) : t.quotaAllows i = s.quotaAllows i := by
  have hu : t.unfilled = s.unfilled := by
    funext j; simp only [State.unfilled, profile_of_admission hp, inUse_of_tracker h]
  simp only [State.quotaAllows, State.othersUnfilled, hu, profile_of_admission hp, inUse_of_tracker h, freeCount_of_tracker h]
  congr!

/-- The five checks read the windows, the target state, the profiles, the remaining budgets and the tracker, and nothing else. -/
theorem verdict_congr {s t : State} (hw : t.windows = s.windows) (ht : t.target.state = s.target.state)
    (hp : t.admission.profiles = s.admission.profiles) (hr : t.regulation.remaining = s.regulation.remaining)
    (he : t.tracker = s.tracker) (i : Initiator) (r : Request) : t.verdict i r = s.verdict i r := by
  unfold State.verdict
  rw [lookup_congr hw, hw, ht, profile_of_admission hp, quotaAllows_congr he hp]
  simp only [State.remaining, hr]
  congr!

/-! ### What a re-check changes -/

/-- From `s` to `t` only what a re-check may change has changed. -/
structure OnlyHeads (s t : State) : Prop where
  tracker : t.tracker = s.tracker
  windows : t.windows = s.windows
  regulation : t.regulation = s.regulation
  target : t.target = s.target
  timebase : t.timebase = s.timebase
  faultLog : t.faultLog = s.faultLog
  management : t.management = s.management
  pending : t.pending = s.pending
  rstN : t.rstN = s.rstN
  sampleOwed : t.sampleOwed = s.sampleOwed
  toTarget : t.links.toTarget = s.links.toTarget
  profiles : t.admission.profiles = s.admission.profiles
  highPointer : t.admission.highPointer = s.admission.highPointer
  normalPointer : t.admission.normalPointer = s.admission.normalPointer
  enables : t.interrupts.enables = s.interrupts.enables
  flag : ∀ c, c ≠ Cause.counterOvf → c ≠ Cause.budgetWait → t.flag c = s.flag c
  edges : t.monitor.edges = s.monitor.edges
  bins : t.monitor.bins = s.monitor.bins
  control : ∀ c, (t.counter c).control = (s.counter c).control
  edgeMemory : ∀ c, (t.counter c).edgeMemory = (s.counter c).edgeMemory
  readHolding : ∀ c, (t.counter c).readHolding = (s.counter c).readHolding
  writeHolding : ∀ c, (t.counter c).writeHolding = (s.counter c).writeHolding
  portState : ∀ i, (t.port i).state = (s.port i).state
  sent : ∀ i, s.sentTo i <+: t.sentTo i

namespace OnlyHeads

theorem refl (s : State) : OnlyHeads s s where
  tracker := rfl
  windows := rfl
  regulation := rfl
  target := rfl
  timebase := rfl
  faultLog := rfl
  management := rfl
  pending := rfl
  rstN := rfl
  sampleOwed := rfl
  toTarget := rfl
  profiles := rfl
  highPointer := rfl
  normalPointer := rfl
  enables := rfl
  flag _ _ _ := rfl
  edges := rfl
  bins := rfl
  control _ := rfl
  edgeMemory _ := rfl
  readHolding _ := rfl
  writeHolding _ := rfl
  portState _ := rfl
  sent _ := List.prefix_rfl

theorem trans {s t u : State} (h : OnlyHeads s t) (k : OnlyHeads t u) : OnlyHeads s u where
  tracker := k.tracker.trans h.tracker
  windows := k.windows.trans h.windows
  regulation := k.regulation.trans h.regulation
  target := k.target.trans h.target
  timebase := k.timebase.trans h.timebase
  faultLog := k.faultLog.trans h.faultLog
  management := k.management.trans h.management
  pending := k.pending.trans h.pending
  rstN := k.rstN.trans h.rstN
  sampleOwed := k.sampleOwed.trans h.sampleOwed
  toTarget := k.toTarget.trans h.toTarget
  profiles := k.profiles.trans h.profiles
  highPointer := k.highPointer.trans h.highPointer
  normalPointer := k.normalPointer.trans h.normalPointer
  enables := k.enables.trans h.enables
  flag c hc hb := (k.flag c hc hb).trans (h.flag c hc hb)
  edges := k.edges.trans h.edges
  bins := k.bins.trans h.bins
  control c := (k.control c).trans (h.control c)
  edgeMemory c := (k.edgeMemory c).trans (h.edgeMemory c)
  readHolding c := (k.readHolding c).trans (h.readHolding c)
  writeHolding c := (k.writeHolding c).trans (h.writeHolding c)
  portState i := (k.portState i).trans (h.portState i)
  sent i := (h.sent i).trans (k.sent i)

/-- The checks find the same of a request after a re-check as before it. -/
theorem verdict {s t : State} (h : OnlyHeads s t) (i : Initiator) (r : Request) : t.verdict i r = s.verdict i r :=
  verdict_congr h.windows (by rw [h.target]) h.profiles (by rw [h.regulation]) h.tracker i r

theorem foldl {α : Type} (f : State → α → State) (hf : ∀ s a, OnlyHeads s (f s a)) (l : List α) (s : State) :
    OnlyHeads s (l.foldl f s) := by
  induction l generalizing s with
  | nil => exact refl s
  | cons a l ih => exact (hf s a).trans (ih _)

end OnlyHeads

/-- A report without a latency changes no more than a re-check may. -/
theorem report_onlyHeads (s : State) (rs : List Report) : OnlyHeads s (s.report rs) := by
  have h := report_onlyMonitor s rs none
  exact
    { tracker := h.tracker, windows := h.windows, regulation := h.regulation, target := h.target, timebase := h.timebase
      faultLog := h.faultLog, management := h.management, pending := h.pending, rstN := h.rstN, sampleOwed := h.sampleOwed, toTarget := by rw [h.links]
      profiles := by rw [h.admission], highPointer := by rw [h.admission], normalPointer := by rw [h.admission]
      enables := h.enables, flag := fun c hc _ => h.flag c hc, edges := h.edges, bins := report_bins s rs
      control := h.control, edgeMemory := report_edgeMemory s rs none, readHolding := h.readHolding
      writeHolding := h.writeHolding, portState := fun i => by rw [port_of_ports h.ports]
      sent := fun i => by simp only [State.sentTo, h.links]; exact List.prefix_rfl }

theorem setHead_onlyHeads (s : State) (i : Initiator) (h : HeadStatus) : OnlyHeads s (s.setHead i h) :=
  { OnlyHeads.refl s with }

theorem raise_budgetWait_onlyHeads (s : State) : OnlyHeads s (s.raise .budgetWait) :=
  { OnlyHeads.refl s with flag := fun c _ hb => by simp [flag_raise, hb] }

theorem modPort_onlyHeads (s : State) (i : Initiator) (f : Port → Port) (h : ∀ p : Port, (f p).state = p.state) :
    OnlyHeads s (s.modPort i f) :=
  { OnlyHeads.refl s with
    portState := fun j => by
      rw [port_modPort]
      split
      · exact h _
      · rfl }

theorem send_onlyHeads (s : State) (i : Initiator) (m : ToInitiator) : OnlyHeads s (s.send i m) :=
  { OnlyHeads.refl s with
    sent := fun j => by
      rw [sentTo_send]
      split
      · exact List.prefix_append _ _
      · exact List.prefix_rfl }

theorem returnCredit_onlyHeads (s : State) (i : Initiator) : OnlyHeads s (s.returnCredit i) :=
  (modPort_onlyHeads s i (fun p => { p with granted := p.granted + 1 }) fun _ => rfl).trans (send_onlyHeads _ i _)

/-- The refusal of a head (R61). -/
theorem refuseHead_onlyHeads (s : State) (i : Initiator) (r : Request) (rest : List Request) (why : HeadRefusal) :
    OnlyHeads s (s.refuseHead i r rest why) := by
  have h1 := modPort_onlyHeads s i (fun p => { p with queue := rest }) fun _ => rfl
  have h2 := send_onlyHeads (s.modPort i fun p => { p with queue := rest }) i (.response r.tag why.status [])
  unfold State.refuseHead
  exact ((h1.trans h2).trans (returnCredit_onlyHeads _ i)).trans (report_onlyHeads _ _)

/-- The check of a queue from its head (R53, R57). -/
theorem checkQueue_onlyHeads (i : Initiator) (q : List Request) :
    ∀ (prev : HeadStatus) (s : State), OnlyHeads s (State.checkQueue i prev q s) := by
  induction q with
  | nil => intro prev s; exact setHead_onlyHeads s i _
  | cons r rest ih =>
    intro prev s
    unfold State.checkQueue
    split
    · exact (refuseHead_onlyHeads s i r rest _).trans (ih _ _)
    · simp only
      split
      · exact (setHead_onlyHeads s i _).trans (raise_budgetWait_onlyHeads _)
      · exact setHead_onlyHeads s i _
    · exact setHead_onlyHeads s i _

theorem headArrives_onlyHeads (s : State) (i : Initiator) : OnlyHeads s (s.headArrives i) :=
  checkQueue_onlyHeads i _ _ s

theorem recheckOne_onlyHeads (s : State) (i : Initiator) : OnlyHeads s (s.recheckOne i) := by
  unfold State.recheckOne
  split
  · exact OnlyHeads.refl s
  · exact checkQueue_onlyHeads i _ _ s

/-- A re-check changes heads, queues, credits, links, BUDGET_WAIT and what reports reach; nothing else (R60). -/
theorem recheck_onlyHeads (s : State) : OnlyHeads s s.recheck :=
  OnlyHeads.foldl _ recheckOne_onlyHeads _ s

end Sys2Proof.Machine
end

