-- ==== Sys2Proof/Laws/Bus.lean ====
section
/-!
SUPPORT. Which cycle of the management bus is which access, and that a write cycle's command does what a write of its word to its address
does (R186, R187, R190).
-/

namespace Sys2Proof.Machine

/-- A cycle is a read, a write or no access, by the three strobes alone. -/
theorem access_cases (b : BusCycle) :
    (b.mcsN = false ∧ b.mrdN = false ∧ b.mwrN = true ∧ b.access = some (.read b.address)) ∨
    (b.mcsN = false ∧ b.mrdN = true ∧ b.mwrN = false ∧ b.access = some (.write b.address b.data)) ∨
    ((b.mcsN = true ∨ b.mrdN = b.mwrN) ∧ b.access = none) := by
  obtain ⟨mcs, mrd, mwr, a, d⟩ := b
  cases mcs <;> cases mrd <;> cases mwr <;> simp [BusCycle.access]

theorem exec_ite (p : Prop) [Decidable p] (a b : Instr) (s : State) :
    exec (if p then a else b) s = if p then exec a s else exec b s := by split <;> rfl

theorem ite_eq_of {α : Type} {p : Prop} [Decidable p] {a b c : α} (h : p → a = c) (k : ¬p → b = c) : (if p then a else b) = c := by
  split <;> simp_all

/-- The command of a code does what the command register does with it (R190), while RST_N is high (R195). -/
theorem exec_commandOfCode (code : Word) (s : State) :
    exec (commandOfCode code) s = .next (s.outOfReset fun t => t.writeCommand code) := by
  unfold commandOfCode
  iterate 18
    rw [exec_ite]
    refine ite_eq_of (by rintro rfl; rfl) fun _ => ?_
  rfl

theorem exec_counterWriteCommand (c : CounterIdx) (k : Nat) (v : Word) (s : State) :
    exec (counterWriteCommand c k v) s = .next (s.outOfReset fun t => t.writeCounterWord c k v) := by
  unfold counterWriteCommand State.writeCounterWord
  split <;> simp_all [exec, execCounterValueLowWrite, execCounterValueHighWrite, execCounterControlWrite]

/-- The command of a write does what a write of the word to the address does (R187), while RST_N is high (R195). -/
theorem exec_writeCommandAt (a : BitVec 8) (v : Word) (s : State) :
    exec (writeCommandAt a v) s = .next (s.outOfReset fun t => t.writeWord a v) := by
  unfold writeCommandAt
  simp only
  iterate 11
    rw [exec_ite]
    refine ite_eq_of (fun h => ?_) fun _ => ?_
    · first | rw [exec_commandOfCode] | rw [exec_counterWriteCommand] | skip
      refine congrArg (fun f => Host.Outcome.next (s.outOfReset f)) (funext fun t => ?_)
      simp only [State.writeWord]
      repeat first | rw [if_pos (by omega)] | rw [if_neg (by omega)]
  rfl

/-- A cycle of the bus while RST_N is low is ignored, and drives nothing (R195). -/
theorem busCycle_low (s : State) (b : BusCycle) (h : s.rstN = false) : s.busCycle b = .next s ∧ s.busDrives b = none := by
  rcases access_cases b with ⟨-, -, -, e⟩ | ⟨-, -, -, e⟩ | ⟨-, e⟩
  · refine ⟨?_, by simp [State.busDrives, e, h]⟩
    simp only [State.busCycle, e, readCommandAt]
    split
    · rename_i c hc
      revert hc
      split
      · rintro ⟨⟩; simp [exec, execTickCountLowRead, h]
      · split
        · rintro ⟨⟩; simp [exec, execCounterValueLowRead, h]
        · rintro ⟨⟩
    · simp [h]
  · exact ⟨by simp [State.busCycle, e, exec_writeCommandAt, h], by simp [State.busDrives, e]⟩
  · exact ⟨by simp [State.busCycle, e], by simp [State.busDrives, e]⟩

end Sys2Proof.Machine
end

