-- ==== Sys2Proof/Laws/Faults.lean ====
section
/-!
SUPPORT. What the fault log and a command's completion do: the two cases of each, and all that they leave.
-/

namespace Sys2Proof.Machine

/-- The two outcomes of a record handed to the log (R177, R178). -/
theorem logFault_cases (s : State) (r : FaultReport) :
    (s.faultLog.length < 16 ∧
      s.logFault r = State.raise { s with faultLog := s.faultLog ++ [{ report := r, tick := s.timebase.count }] } .fault) ∨
    (16 ≤ s.faultLog.length ∧ s.logFault r = s.raise .faultLost) := by
  unfold State.logFault
  split
  · exact .inl ⟨by assumption, rfl⟩
  · exact .inr ⟨by simp only [Config.logPlaces] at *; omega, rfl⟩

/-- A record handed to the log changes the log and the interrupt flags alone. -/
theorem logFault_only (s : State) (r : FaultReport) :
    ∃ l f, s.logFault r = { s with faultLog := l, interrupts := { s.interrupts with flags := f } } := by
  rcases logFault_cases s r with ⟨-, h⟩ | ⟨-, h⟩
  · exact ⟨_, _, h⟩
  · exact ⟨s.faultLog, _, h⟩

@[simp] theorem logFault_tracker (s : State) (r : FaultReport) : (s.logFault r).tracker = s.tracker := by
  obtain ⟨l, f, h⟩ := logFault_only s r; rw [h]
@[simp] theorem logFault_ports (s : State) (r : FaultReport) : (s.logFault r).ports = s.ports := by
  obtain ⟨l, f, h⟩ := logFault_only s r; rw [h]
@[simp] theorem logFault_admission (s : State) (r : FaultReport) : (s.logFault r).admission = s.admission := by
  obtain ⟨l, f, h⟩ := logFault_only s r; rw [h]
@[simp] theorem logFault_windows (s : State) (r : FaultReport) : (s.logFault r).windows = s.windows := by
  obtain ⟨l, f, h⟩ := logFault_only s r; rw [h]
@[simp] theorem logFault_regulation (s : State) (r : FaultReport) : (s.logFault r).regulation = s.regulation := by
  obtain ⟨l, f, h⟩ := logFault_only s r; rw [h]
@[simp] theorem logFault_target (s : State) (r : FaultReport) : (s.logFault r).target = s.target := by
  obtain ⟨l, f, h⟩ := logFault_only s r; rw [h]
@[simp] theorem logFault_timebase (s : State) (r : FaultReport) : (s.logFault r).timebase = s.timebase := by
  obtain ⟨l, f, h⟩ := logFault_only s r; rw [h]
@[simp] theorem logFault_monitor (s : State) (r : FaultReport) : (s.logFault r).monitor = s.monitor := by
  obtain ⟨l, f, h⟩ := logFault_only s r; rw [h]
@[simp] theorem logFault_enables (s : State) (r : FaultReport) :
    (s.logFault r).interrupts.enables = s.interrupts.enables := by
  obtain ⟨l, f, h⟩ := logFault_only s r; rw [h]
@[simp] theorem logFault_management (s : State) (r : FaultReport) : (s.logFault r).management = s.management := by
  obtain ⟨l, f, h⟩ := logFault_only s r; rw [h]
@[simp] theorem logFault_links (s : State) (r : FaultReport) : (s.logFault r).links = s.links := by
  obtain ⟨l, f, h⟩ := logFault_only s r; rw [h]
@[simp] theorem logFault_rstN (s : State) (r : FaultReport) : (s.logFault r).rstN = s.rstN := by
  obtain ⟨l, f, h⟩ := logFault_only s r; rw [h]
@[simp] theorem logFault_sampleOwed (s : State) (r : FaultReport) : (s.logFault r).sampleOwed = s.sampleOwed := by
  obtain ⟨l, f, h⟩ := logFault_only s r; rw [h]
@[simp] theorem logFault_choices (s : State) (r : FaultReport) : (s.logFault r).choices = s.choices := by
  obtain ⟨l, f, h⟩ := logFault_only s r; rw [h]
@[simp] theorem logFault_pending (s : State) (r : FaultReport) : (s.logFault r).pending = s.pending := by
  obtain ⟨l, f, h⟩ := logFault_only s r; rw [h]

/-- The flags after a record is handed: only FAULT or FAULT_LOST can become set. -/
theorem flag_logFault (s : State) (r : FaultReport) (c : Cause) :
    (s.logFault r).flag c =
      (s.flag c || decide (c = if s.faultLog.length < 16 then Cause.fault else Cause.faultLost)) := by
  rcases logFault_cases s r with ⟨hl, h⟩ | ⟨hl, h⟩
  · rw [h, flag_raise, if_pos hl]; rfl
  · rw [h, flag_raise, if_neg (by omega)]

/-- A record never shortens the log, and never fills it past 16. -/
theorem logFault_length (s : State) (r : FaultReport) (h : s.faultLog.length ≤ 16) :
    (s.logFault r).faultLog.length ≤ 16 := by
  rcases logFault_cases s r with ⟨hl, e⟩ | ⟨hl, e⟩
  · rw [e]; simp only [State.raise_faultLog, List.length_append, List.length_singleton]; omega
  · rw [e]; exact h

/-! ### The completion of a command (R190, R191) -/

/-- A completion writes the code and the status, and reports COMMAND_REFUSED for every status but DONE. -/
theorem complete_cases (s : State) (code : Word) (st : CommandStatus) :
    (st = .done ∧ s.complete code st = { s with management := { s.management with command := code, status := .done } }) ∨
    (st ≠ .done ∧
      s.complete code st = State.raise { s with management := { s.management with command := code, status := st } } .commandRefused) := by
  unfold State.complete
  by_cases h : st = .done
  · subst h; exact .inl ⟨rfl, rfl⟩
  · exact .inr ⟨h, by simp only [if_neg h]⟩

/-- A completion changes the command, its status and the interrupt flags alone. -/
theorem complete_only (s : State) (code : Word) (st : CommandStatus) :
    ∃ f, s.complete code st =
      { s with management := { s.management with command := code, status := st }, interrupts := { s.interrupts with flags := f } } := by
  rcases complete_cases s code st with ⟨rfl, h⟩ | ⟨-, h⟩
  · exact ⟨s.interrupts.flags, h⟩
  · exact ⟨_, h⟩

/-- A command whose argument is in range is its owner's act, completed with the owner's status. -/
theorem withArgument_of_lt (s : State) (n : Nat) (code : Word) (act : Fin n → State → State × CommandStatus) (k : Fin n)
    (h : s.management.argument.toNat = k) :
    s.withArgument n code act = ((act k s).1).complete code (act k s).2 := by
  have hk : s.management.argument.toNat < n := h ▸ k.isLt
  have : s.argument n = some k := by
    simp only [State.argument, dif_pos hk]
    exact congrArg some (Fin.ext h)
  simp only [State.withArgument, this]

/-- A command whose argument is out of range is refused INVALID (R191). -/
theorem withArgument_of_ge (s : State) (n : Nat) (code : Word) (act : Fin n → State → State × CommandStatus)
    (h : n ≤ s.management.argument.toNat) : s.withArgument n code act = s.complete code .invalid := by
  simp only [State.withArgument, State.argument, dif_neg (Nat.not_lt.mpr h)]

end Sys2Proof.Machine
end

