-- ==== Sys2Proof/Laws/Frame.lean ====
section
/-!
SUPPORT. The frame relation: reflexive, growing with its list, composing; and complete: two states that agree on every piece, on the
waiting commands and on the count of free orders are equal.
-/

namespace Sys2Proof.Machine

/-- Nothing changed is every frame. -/
theorem frame_refl (s : State) (l : List Piece) : s.Frame s l := by
  refine ⟨rfl, fun p _ => ?_⟩
  cases p <;> simp [Piece.same]

theorem same_trans {s t u : State} (p : Piece) (h : p.same s t = true) (k : p.same t u = true) : p.same s u = true := by
  cases p <;> simp_all [Piece.same]

theorem frame_mono {s t : State} {l m : List Piece} (h : s.Frame t l) (hlm : ∀ p ∈ l, p ∈ m) : s.Frame t m :=
  ⟨h.1, fun p hp => h.2 p fun hl => hp (hlm p hl)⟩

theorem frame_trans {s t u : State} {l m : List Piece} (h : s.Frame t l) (k : t.Frame u m) : s.Frame u (l ++ m) :=
  ⟨k.1.trans h.1, fun p hp =>
    same_trans p (h.2 p fun hl => hp (List.mem_append_left _ hl)) (k.2 p fun hm => hp (List.mem_append_right _ hm))⟩

theorem vector_ext_fin {α : Type} {n : Nat} {v w : Vector α n} (h : ∀ i : Fin n, v[i] = w[i]) : v = w := by
  ext i hi
  exact h ⟨i, hi⟩

/-- The fifteen causes cover the flag register. -/
theorem flags_ext {a b : BitVec 15} (h : ∀ c : Cause, a.getLsbD c.place = b.getLsbD c.place) : a = b := by
  ext k hk
  rw [← BitVec.getLsbD_eq_getElem hk, ← BitVec.getLsbD_eq_getElem hk]
  have hc : ∃ c : Cause, c.place = k := by
    by_cases h4 : k < 4
    · exact ⟨.drainDone ⟨k, h4⟩, rfl⟩
    by_cases h8 : k < 8
    · exact ⟨.portReset ⟨k - 4, by omega⟩, by simp only [Cause.place]; omega⟩
    have : k = 8 ∨ k = 9 ∨ k = 10 ∨ k = 11 ∨ k = 12 ∨ k = 13 ∨ k = 14 := by omega
    rcases this with rfl | rfl | rfl | rfl | rfl | rfl | rfl
    · exact ⟨.targetState, rfl⟩
    · exact ⟨.fault, rfl⟩
    · exact ⟨.faultLost, rfl⟩
    · exact ⟨.counterOvf, rfl⟩
    · exact ⟨.budgetWait, rfl⟩
    · exact ⟨.commandRefused, rfl⟩
    · exact ⟨.configError, rfl⟩
  obtain ⟨c, rfl⟩ := hc
  exact h c

/-- The pieces are the whole state: a frame with no changed piece, and the same count of free orders, is equality. -/
theorem eq_of_frame_nil {s t : State} (h : s.Frame t []) (hc : t.choices = s.choices) : t = s := by
  obtain ⟨hp, h⟩ := h
  have g : ∀ p : Piece, p.same s t = true := fun p => h p (List.not_mem_nil)
  have e1 : t.tracker = s.tracker := vector_ext_fin fun x => of_decide_eq_true (g (.entry x))
  have e2 : t.ports = s.ports := vector_ext_fin fun i => by
    have a := of_decide_eq_true (g (.portState i)); have b := of_decide_eq_true (g (.granted i)); have c := of_decide_eq_true (g (.queue i))
    cases ht : t.ports[i]; cases hs : s.ports[i]; simp_all [State.port]
  have e3 : t.admission = s.admission := by
    have a : t.admission.profiles = s.admission.profiles := vector_ext_fin fun i => of_decide_eq_true (g (.profile i))
    have b : t.admission.heads = s.admission.heads := vector_ext_fin fun i => of_decide_eq_true (g (.head i))
    have c := of_decide_eq_true (g .highPointer); have d := of_decide_eq_true (g .normalPointer)
    cases ht : t.admission; cases hs : s.admission; simp_all
  have e4 : t.windows = s.windows := vector_ext_fin fun w => of_decide_eq_true (g (.window w))
  have e5 : t.regulation = s.regulation := by
    have a : t.regulation.remaining = s.regulation.remaining :=
      vector_ext_fin fun i => of_decide_eq_true (g (.remaining i))
    have c := of_decide_eq_true (g .period); have d := of_decide_eq_true (g .periodTimer)
    cases ht : t.regulation; cases hs : s.regulation; simp_all
  have e6 : t.target = s.target := by
    have a := of_decide_eq_true (g .targetState); have b := of_decide_eq_true (g .credits); have c := of_decide_eq_true (g .highQueue); have d := of_decide_eq_true (g .normalQueue)
    have e := of_decide_eq_true (g .consecutiveHigh); have f := of_decide_eq_true (g .resyncTimer); have k := of_decide_eq_true (g .resyncWait); have m := of_decide_eq_true (g .detachLimit)
    cases ht : t.target; cases hs : s.target; simp_all
  have e7 : t.timebase = s.timebase := by
    have a := of_decide_eq_true (g .prescaler); have b := of_decide_eq_true (g .progress); have c := of_decide_eq_true (g .count); have d := of_decide_eq_true (g .tickHolding)
    cases ht : t.timebase; cases hs : s.timebase; simp_all
  have e8 : t.monitor = s.monitor := by
    have a : t.monitor.counters = s.monitor.counters := vector_ext_fin fun c => by
      have a := of_decide_eq_true (g (.counterValue c)); have b := of_decide_eq_true (g (.counterControl c)); have d := of_decide_eq_true (g (.overflow c)); have e := of_decide_eq_true (g (.edgeMemory c))
      have f := of_decide_eq_true (g (.readHolding c)); have k := of_decide_eq_true (g (.writeHolding c))
      cases ht : t.monitor.counters[c]; cases hs : s.monitor.counters[c]; simp_all [State.counter]
    have b := of_decide_eq_true (g .bank); have c := of_decide_eq_true (g .edges)
    have d : t.monitor.bins = s.monitor.bins := vector_ext_fin fun i => of_decide_eq_true (g (.bins i))
    cases ht : t.monitor; cases hs : s.monitor; simp_all
  have e9 : t.faultLog = s.faultLog := of_decide_eq_true (g .faultLog)
  have e10 : t.interrupts = s.interrupts := by
    have a : t.interrupts.flags = s.interrupts.flags := flags_ext fun c => of_decide_eq_true (g (.flag c))
    have b := of_decide_eq_true (g .enables)
    cases ht : t.interrupts; cases hs : s.interrupts; simp_all
  have e11 : t.management = s.management := by
    have a := of_decide_eq_true (g .argument); have b := of_decide_eq_true (g .command); have c := of_decide_eq_true (g .status); have e := of_decide_eq_true (g .histogramIndex); have f := of_decide_eq_true (g .snapshot)
    have k := of_decide_eq_true (g .busData)
    have d : t.management.staging = s.management.staging :=
      vector_ext_fin fun j => of_decide_eq_true (g (.staging j))
    cases ht : t.management; cases hs : s.management; simp_all
  have e12 : t.links = s.links := by
    have a : t.links.toInitiator = s.links.toInitiator := vector_ext_fin fun i => of_decide_eq_true (g (.link i))
    have b := of_decide_eq_true (g .targetLink)
    cases ht : t.links; cases hs : s.links; simp_all
  have e14 : t.rstN = s.rstN := of_decide_eq_true (g .rstN)
  have e13 : t.sampleOwed = s.sampleOwed := of_decide_eq_true (g .sampleOwed)
  cases t; cases s
  simp only at *
  simp [*]

end Sys2Proof.Machine
end

