-- ==== Sys2Proof/Laws/PerInstr.lean ====
section
/-!
SUPPORT. What is said of every command as syntax, one lemma per constructor. `OneLink`: a command that an initiator's message stands
for is not one that a target's message stands for (R29, R30): each link's traffic is its own.
-/

namespace Sys2Proof.Laws

open Sys2Proof.Machine

/-- A message of an initiator link is no message of the target link (R29). -/
def OneLink.Statement (i : Instr) : Prop := (initiatorMessage i).isSome = true → targetMessage i = none

theorem OneLink.request (j : Initiator) (r : Request) : OneLink.Statement (.request j r) := fun _ => rfl
theorem OneLink.linkReset (j : Initiator) : OneLink.Statement (.linkReset j) := fun _ => rfl
theorem OneLink.undefinedKindMessage (l : Link) (k : Nat) : OneLink.Statement (.undefinedKindMessage l k) := by
  intro h
  cases l with
  | initiator j => rfl
  | target => exact absurd h (by simp [initiatorMessage])
theorem OneLink.targetResponse (r : Response) : OneLink.Statement (.targetResponse r) := fun h => absurd h (by simp [initiatorMessage])
theorem OneLink.targetCredit (n : Nat) : OneLink.Statement (.targetCredit n) := fun h => absurd h (by simp [initiatorMessage])
theorem OneLink.resyncAck (n : Nat) : OneLink.Statement (.resyncAck n) := fun h => absurd h (by simp [initiatorMessage])
theorem OneLink.resetNotice (n : Nat) : OneLink.Statement (.resetNotice n) := fun h => absurd h (by simp [initiatorMessage])
theorem OneLink.tick : OneLink.Statement .tick := fun _ => rfl
theorem OneLink.expiryClaim : OneLink.Statement .expiryClaim := fun _ => rfl
theorem OneLink.periodExpiry : OneLink.Statement .periodExpiry := fun _ => rfl
theorem OneLink.resyncWaitExpiry : OneLink.Statement .resyncWaitExpiry := fun _ => rfl
theorem OneLink.grant : OneLink.Statement .grant := fun _ => rfl
theorem OneLink.issue : OneLink.Statement .issue := fun _ => rfl
theorem OneLink.drainCompletion (p : Initiator) : OneLink.Statement (.drainCompletion p) := fun _ => rfl
theorem OneLink.deviceReset : OneLink.Statement .deviceReset := fun _ => rfl
theorem OneLink.portEnable : OneLink.Statement .portEnable := fun _ => rfl
theorem OneLink.portDrain : OneLink.Statement .portDrain := fun _ => rfl
theorem OneLink.portFence : OneLink.Statement .portFence := fun _ => rfl
theorem OneLink.targetResync : OneLink.Statement .targetResync := fun _ => rfl
theorem OneLink.targetOffline : OneLink.Statement .targetOffline := fun _ => rfl
theorem OneLink.writeWindow : OneLink.Statement .writeWindow := fun _ => rfl
theorem OneLink.readWindow : OneLink.Statement .readWindow := fun _ => rfl
theorem OneLink.writeProfile : OneLink.Statement .writeProfile := fun _ => rfl
theorem OneLink.readProfile : OneLink.Statement .readProfile := fun _ => rfl
theorem OneLink.writeEdges : OneLink.Statement .writeEdges := fun _ => rfl
theorem OneLink.budgetReload : OneLink.Statement .budgetReload := fun _ => rfl
theorem OneLink.histClear : OneLink.Statement .histClear := fun _ => rfl
theorem OneLink.counterFreeze : OneLink.Statement .counterFreeze := fun _ => rfl
theorem OneLink.counterUnfreeze : OneLink.Statement .counterUnfreeze := fun _ => rfl
theorem OneLink.counterClear : OneLink.Statement .counterClear := fun _ => rfl
theorem OneLink.trackerSnapshot : OneLink.Statement .trackerSnapshot := fun _ => rfl
theorem OneLink.faultPop : OneLink.Statement .faultPop := fun _ => rfl
theorem OneLink.trafficReset : OneLink.Statement .trafficReset := fun _ => rfl
theorem OneLink.unassignedCommand (c : Word) : OneLink.Statement (.unassignedCommand c) := fun _ => rfl
theorem OneLink.prescalerWrite (v : Word) : OneLink.Statement (.prescalerWrite v) := fun _ => rfl
theorem OneLink.regulationPeriodWrite (v : Word) : OneLink.Statement (.regulationPeriodWrite v) := fun _ => rfl
theorem OneLink.detachLimitWrite (v : Word) : OneLink.Statement (.detachLimitWrite v) := fun _ => rfl
theorem OneLink.resyncWaitWrite (v : Word) : OneLink.Statement (.resyncWaitWrite v) := fun _ => rfl
theorem OneLink.tickCountLowRead : OneLink.Statement .tickCountLowRead := fun _ => rfl
theorem OneLink.interruptFlagsWrite (v : Word) : OneLink.Statement (.interruptFlagsWrite v) := fun _ => rfl
theorem OneLink.interruptEnablesWrite (v : Word) : OneLink.Statement (.interruptEnablesWrite v) := fun _ => rfl
theorem OneLink.counterValueLowRead (c : CounterIdx) : OneLink.Statement (.counterValueLowRead c) := fun _ => rfl
theorem OneLink.counterValueHighWrite (c : CounterIdx) (v : Word) : OneLink.Statement (.counterValueHighWrite c v) := fun _ => rfl
theorem OneLink.counterValueLowWrite (c : CounterIdx) (v : Word) : OneLink.Statement (.counterValueLowWrite c v) := fun _ => rfl
theorem OneLink.counterControlWrite (c : CounterIdx) (w : ControlWord) (v : Word) : OneLink.Statement (.counterControlWrite c w v) := fun _ => rfl
theorem OneLink.counterOverflowFlagsWrite (v : Word) : OneLink.Statement (.counterOverflowFlagsWrite v) := fun _ => rfl
theorem OneLink.histogramIndexWrite (v : Word) : OneLink.Statement (.histogramIndexWrite v) := fun _ => rfl
theorem OneLink.stagingWrite (k : Fin 8) (v : Word) : OneLink.Statement (.stagingWrite k v) := fun _ => rfl
theorem OneLink.registerWrite (a : BitVec 8) (v : Word) : OneLink.Statement (.registerWrite a v) := fun _ => rfl

end Sys2Proof.Laws
end

