-- ==== Sys2Proof/Laws/Timebase.lean ====
section
/-!
SUPPORT. When an expiry of a tick is due, and what the moments at which the monitor may take a tick it owes can do (R159, log entry 3).
-/

namespace Sys2Proof.Machine

/-! ### What is due -/

/-- An expiry claim is due exactly while a live entry's expiry tick is the count (R127). -/
theorem expiryDue_iff (s : State) :
    s.expiryDue = true ↔ ∃ x : EntryIdx, ∃ e ∈ s.entry x, e.phase.live = true ∧ e.expiryTick = some s.timebase.count := by
  unfold State.expiryDue
  simp only [List.any_eq_true, entryIndices, List.mem_finRange, true_and, Option.any_eq_true, Bool.and_eq_true, beq_iff_eq,
    Option.mem_def]

/-- A period expiry is due exactly while a RUNNING timer has its last tick to take (R86). -/
theorem periodDue_iff (g : Regulation) : g.expiryDue = true ↔ ∃ n ∈ g.timer, n.expiryDue = true := by
  simp [Regulation.expiryDue, Option.any_eq_true]

/-- A resync wait expiry is due exactly while a RUNNING timer has its last tick to take (R112). -/
theorem resyncDue_iff (t : TargetPort) : t.expiryDue = true ↔ t.state = .resyncing ∧ ∃ n ∈ t.resyncTimer, n.expiryDue = true := by
  simp [TargetPort.expiryDue, Option.any_eq_true]

/-! ### What a tick makes due -/

/-- A tick of the period timer: it counts, or, at the last tick of the period, makes the expiry due and leaves the count to it (R86). -/
theorem countTick_timer (g : Regulation) :
    g.countTick = { g with timer := g.countTick.timer } ∧
    (g.timer = none → g.countTick.timer = none) ∧
    (∀ n ∈ g.timer, g.countTick.timer =
      if g.period ≤ n.ticks + 1 then some { n with expiryDue := true } else some { n with ticks := n.ticks + 1 }) := by
  refine ⟨rfl, fun h => by simp [Regulation.countTick, h], fun n h => ?_⟩
  rw [Option.mem_def] at h
  simp only [Regulation.countTick, h, Option.map_some]
  split <;> rfl

/-- A tick of the resync wait timer: it counts, or, at the last tick, makes the expiry due and leaves the count to it (R112). -/
theorem countTick_resyncTimer (t : TargetPort) :
    t.countTick = { t with resyncTimer := t.countTick.resyncTimer } ∧
    (t.resyncTimer = none → t.countTick.resyncTimer = none) ∧
    (∀ n ∈ t.resyncTimer, t.countTick.resyncTimer =
      if n.ticks ≤ 1 then some { n with expiryDue := true } else some { n with ticks := n.ticks - 1 }) := by
  refine ⟨rfl, fun h => by simp [TargetPort.countTick, h], fun n h => ?_⟩
  rw [Option.mem_def] at h
  simp only [TargetPort.countTick, h, Option.map_some]
  split <;> rfl

/-- A monitor event makes nothing due and settles nothing. -/
theorem anyDue_of_onlyMonitor {s t : State} (h : OnlyMonitor s t) : t.anyDue = s.anyDue := by
  unfold State.anyDue State.expiryDue
  simp only [State.entry, h.tracker, h.timebase, h.regulation, h.target]

/-! ### The sample a tick owes -/

/-- Where no sample is owed, the moment passes. -/
theorem offerSample_of_not_owed (s : State) (h : s.sampleOwed = false) : s.offerSample = s := by
  simp [State.offerSample, h]

/-- Where nothing of the tick is due any more, the sample that is owed is taken. -/
theorem offerSample_of_not_due (s : State) (h : s.sampleOwed = true) (hd : s.anyDue = false) : s.offerSample = s.takeSample := by
  simp [State.offerSample, h, hd]

/-- Everything the moment can do: nothing, the sample, or, while an expiry of the tick is still due, the sample or a further wait. -/
theorem offerSample_cases (s : State) :
    (s.sampleOwed = false ∧ s.offerSample = s) ∨
    (s.sampleOwed = true ∧ s.anyDue = false ∧ s.offerSample = s.takeSample) ∨
    (s.sampleOwed = true ∧ s.anyDue = true ∧
      (s.offerSample = State.takeSample { s with choices := s.choices + 1 } ∨ s.offerSample = { s with choices := s.choices + 1 })) := by
  unfold State.offerSample
  cases s.sampleOwed <;> cases s.anyDue <;> cases Config.sampleWaits s.choices <;> simp

/-- The sample taken is owed no more; for the rest it changes the monitor alone. -/
theorem takeSample_onlyMonitor (s : State) : OnlyMonitor { s with sampleOwed := false } s.takeSample :=
  sampleAll_onlyMonitor _

theorem takeSample_sampleOwed (s : State) : s.takeSample.sampleOwed = false := (takeSample_onlyMonitor s).sampleOwed

/-- From one state to the next the moment changes at most the owed sample and the monitor. -/
theorem offerSample_onlyMonitor (s : State) : ∃ b : Bool, OnlyMonitor { s with sampleOwed := b } s.offerSample := by
  rcases offerSample_cases s with ⟨-, h⟩ | ⟨-, -, h⟩ | ⟨-, -, h | h⟩ <;> rw [h]
  · exact ⟨s.sampleOwed, OnlyMonitor.refl s⟩
  · exact ⟨false, takeSample_onlyMonitor s⟩
  · exact ⟨false, (choose_onlyMonitor { s with sampleOwed := false } (s.choices + 1)).trans
      (takeSample_onlyMonitor { s with choices := s.choices + 1 })⟩
  · exact ⟨s.sampleOwed, choose_onlyMonitor s (s.choices + 1)⟩

end Sys2Proof.Machine
end

