-- ==== Sys2Proof/Laws/Tracker.lean ====
section
/-!
SUPPORT. What freeing, detaching and the claims over many entries can change, what freeing makes of each entry, and what the notices
after a claim can change (R5, R9, R15, R17, R116).
-/

namespace Sys2Proof.Machine

/-! ### Claims -/

/-- From `s` to `t` only entries, issue queues and answers on the initiator links have changed. -/
structure OnlyClaims (s t : State) : Prop where
  eq : ∃ tr hq nq li, t = { s with
    tracker := tr, target := { s.target with highQueue := hq, normalQueue := nq }, links := { s.links with toInitiator := li } }
  sent : ∀ i, s.sentTo i <+: t.sentTo i

namespace OnlyClaims

theorem refl (s : State) : OnlyClaims s s :=
  ⟨⟨s.tracker, s.target.highQueue, s.target.normalQueue, s.links.toInitiator, rfl⟩, fun _ => List.prefix_rfl⟩

theorem trans {s t u : State} (h : OnlyClaims s t) (k : OnlyClaims t u) : OnlyClaims s u := by
  obtain ⟨⟨a, b, c, d, h0⟩, h1⟩ := h
  obtain ⟨⟨a', b', c', d', k0⟩, k1⟩ := k
  exact ⟨⟨a', b', c', d', by rw [k0, h0]⟩, fun i => (h1 i).trans (k1 i)⟩

section
variable {s t : State} (h : OnlyClaims s t)
include h

theorem ports : t.ports = s.ports := by obtain ⟨a, b, c, d, e⟩ := h.eq; rw [e]
theorem admission : t.admission = s.admission := by obtain ⟨a, b, c, d, e⟩ := h.eq; rw [e]
theorem windows : t.windows = s.windows := by obtain ⟨a, b, c, d, e⟩ := h.eq; rw [e]
theorem regulation : t.regulation = s.regulation := by obtain ⟨a, b, c, d, e⟩ := h.eq; rw [e]
theorem targetState : t.target.state = s.target.state := by obtain ⟨a, b, c, d, e⟩ := h.eq; rw [e]
theorem credits : t.target.credits = s.target.credits := by obtain ⟨a, b, c, d, e⟩ := h.eq; rw [e]
theorem consecutiveHigh : t.target.consecutiveHigh = s.target.consecutiveHigh := by obtain ⟨a, b, c, d, e⟩ := h.eq; rw [e]
theorem resyncTimer : t.target.resyncTimer = s.target.resyncTimer := by obtain ⟨a, b, c, d, e⟩ := h.eq; rw [e]
theorem resyncWait : t.target.resyncWait = s.target.resyncWait := by obtain ⟨a, b, c, d, e⟩ := h.eq; rw [e]
theorem detachLimit : t.target.detachLimit = s.target.detachLimit := by obtain ⟨a, b, c, d, e⟩ := h.eq; rw [e]
theorem timebase : t.timebase = s.timebase := by obtain ⟨a, b, c, d, e⟩ := h.eq; rw [e]
theorem monitor : t.monitor = s.monitor := by obtain ⟨a, b, c, d, e⟩ := h.eq; rw [e]
theorem faultLog : t.faultLog = s.faultLog := by obtain ⟨a, b, c, d, e⟩ := h.eq; rw [e]
theorem interrupts : t.interrupts = s.interrupts := by obtain ⟨a, b, c, d, e⟩ := h.eq; rw [e]
theorem management : t.management = s.management := by obtain ⟨a, b, c, d, e⟩ := h.eq; rw [e]
theorem toTarget : t.links.toTarget = s.links.toTarget := by obtain ⟨a, b, c, d, e⟩ := h.eq; rw [e]
theorem rstN : t.rstN = s.rstN := by obtain ⟨a, b, c, d, e⟩ := h.eq; rw [e]
theorem sampleOwed : t.sampleOwed = s.sampleOwed := by obtain ⟨a, b, c, d, e⟩ := h.eq; rw [e]
theorem choices : t.choices = s.choices := by obtain ⟨a, b, c, d, e⟩ := h.eq; rw [e]
theorem pending : t.pending = s.pending := by obtain ⟨a, b, c, d, e⟩ := h.eq; rw [e]

end

theorem foldl {α : Type} (f : State → α → State) (hf : ∀ s a, OnlyClaims s (f s a)) (l : List α) (s : State) :
    OnlyClaims s (l.foldl f s) := by
  induction l generalizing s with
  | nil => exact refl s
  | cons a l ih => exact (hf s a).trans (ih _)

end OnlyClaims

theorem send_onlyClaims (s : State) (i : Initiator) (m : ToInitiator) : OnlyClaims s (s.send i m) :=
  ⟨⟨s.tracker, s.target.highQueue, s.target.normalQueue, _, rfl⟩, (send_onlyHeads s i m).sent⟩

theorem answer_onlyClaims (s : State) (e : Entry) (st : Status) (d : List DataBeat) : OnlyClaims s (s.answer e st d) := by
  unfold State.answer
  split
  · exact send_onlyClaims s _ _
  · exact OnlyClaims.refl s

theorem enqueue_onlyClaims (s : State) (x : EntryIdx) : OnlyClaims s (s.enqueue x) := by
  unfold State.enqueue
  split
  · split
    · exact ⟨⟨s.tracker, _, s.target.normalQueue, s.links.toInitiator, rfl⟩, fun _ => List.prefix_rfl⟩
    · exact ⟨⟨s.tracker, s.target.highQueue, _, s.links.toInitiator, rfl⟩, fun _ => List.prefix_rfl⟩
  · exact OnlyClaims.refl s

@[simp] theorem enqueue_tracker (s : State) (x : EntryIdx) : (s.enqueue x).tracker = s.tracker := by
  unfold State.enqueue
  repeat' split
  all_goals rfl

theorem foldl_enqueue_tracker (l : List EntryIdx) (s : State) : (l.foldl State.enqueue s).tracker = s.tracker := by
  induction l generalizing s with
  | nil => rfl
  | cons x l ih => exact (ih _).trans (enqueue_tracker s x)

theorem mapEntries_onlyClaims (s : State) (f : EntryIdx → Option Entry → Option Entry) : OnlyClaims s (s.mapEntries f) :=
  ⟨⟨(s.mapEntries f).tracker, s.target.highQueue, s.target.normalQueue, s.links.toInitiator, by simp only [State.mapEntries]⟩,
    fun i => by simp only [State.sentTo, State.mapEntries_links, List.prefix_rfl]⟩

theorem setEntry_onlyClaims (s : State) (x : EntryIdx) (e : Option Entry) : OnlyClaims s (s.setEntry x e) :=
  ⟨⟨_, s.target.highQueue, s.target.normalQueue, s.links.toInitiator, rfl⟩, fun _ => List.prefix_rfl⟩

theorem unqueue_onlyClaims (s : State) (x : EntryIdx) : OnlyClaims s (s.unqueue x) :=
  ⟨⟨s.tracker, _, _, s.links.toInitiator, rfl⟩, fun _ => List.prefix_rfl⟩

theorem freeEntry_onlyClaims (s : State) (x : EntryIdx) : OnlyClaims s (s.freeEntry x) := by
  unfold State.freeEntry
  split
  · exact OnlyClaims.refl s
  · exact ((unqueue_onlyClaims s x).trans (mapEntries_onlyClaims _ _)).trans
      (OnlyClaims.foldl _ (fun t y => enqueue_onlyClaims t y) _ _)

/-- What freeing entry `x` makes of every entry (R9). -/
theorem entry_freeEntry (s : State) (x y : EntryIdx) (e : Entry) (h : s.entry x = some e) :
    (s.freeEntry x).entry y = unlink x e y (s.entry y) := by
  unfold State.freeEntry
  simp only [h]
  rw [entry_of_tracker (foldl_enqueue_tracker _ _), entry_mapEntries]
  rfl

/-- The freed entry is FREE. -/
theorem entry_freeEntry_self (s : State) (x : EntryIdx) : (s.freeEntry x).entry x = none := by
  cases h : s.entry x with
  | none => unfold State.freeEntry; simp only [h]
  | some e => rw [entry_freeEntry s x x e h, unlink, if_pos rfl]

/-- Freeing a FREE entry does nothing. -/
theorem freeEntry_of_free (s : State) (x : EntryIdx) (h : s.entry x = none) : s.freeEntry x = s := by
  unfold State.freeEntry
  simp only [h]

theorem detachEntry_onlyClaims (s : State) (x : EntryIdx) (e : Entry) (c : DetachCause) :
    OnlyClaims s (s.detachEntry x e c) :=
  setEntry_onlyClaims s x _

theorem settleEntry_onlyClaims (sel : EntryIdx → Entry → Bool) (answer : Option Status) (cause : DetachCause)
    (acc : State × List Settled) (x : EntryIdx) : OnlyClaims acc.1 (settleEntry sel answer cause acc x).1 := by
  cases answer with
  | none =>
    simp only [settleEntry]
    repeat' split
    · exact OnlyClaims.refl _
    · exact detachEntry_onlyClaims _ _ _ _
    · exact freeEntry_onlyClaims _ _
    · exact freeEntry_onlyClaims _ _
    · exact OnlyClaims.refl _
    · exact OnlyClaims.refl _
  | some st =>
    simp only [settleEntry]
    repeat' split
    · exact OnlyClaims.refl _
    · exact (answer_onlyClaims _ _ _ _).trans (detachEntry_onlyClaims _ _ _ _)
    · exact (answer_onlyClaims _ _ _ _).trans (freeEntry_onlyClaims _ _)
    · exact (answer_onlyClaims _ _ _ _).trans (freeEntry_onlyClaims _ _)
    · exact OnlyClaims.refl _
    · exact OnlyClaims.refl _

/-- A claim changes entries, issue queues and answers alone (R17). -/
theorem claim_onlyClaims (s : State) (sel : EntryIdx → Entry → Bool) (answer : Option Status) (cause : DetachCause) :
    OnlyClaims s (s.claim sel answer cause).1 := by
  have fold : ∀ (l : List EntryIdx) (acc : State × List Settled),
      OnlyClaims acc.1 (l.foldl (settleEntry sel answer cause) acc).1 := by
    intro l
    induction l with
    | nil => exact fun acc => OnlyClaims.refl _
    | cons x l ih => exact fun acc => (settleEntry_onlyClaims sel answer cause acc x).trans (ih _)
  exact fold entryIndices (s, [])

theorem acknowledgeClaim_onlyClaims (s : State) : OnlyClaims s s.acknowledgeClaim := by
  refine OnlyClaims.foldl _ (fun t x => ?_) _ s
  unfold State.acknowledgeEntry
  split
  · split
    · exact freeEntry_onlyClaims t x
    · exact OnlyClaims.refl t
  · exact OnlyClaims.refl t

theorem noticeClaim_onlyClaims (s : State) : OnlyClaims s s.noticeClaim := by
  refine OnlyClaims.foldl _ (fun t x => ?_) _ s
  unfold State.noticeEntry
  repeat' split
  · exact (answer_onlyClaims t _ _ _).trans (freeEntry_onlyClaims _ x)
  · exact freeEntry_onlyClaims t x
  · exact OnlyClaims.refl t
  · exact OnlyClaims.refl t
  · exact OnlyClaims.refl t

/-! ### Notices (R5, R116) -/

/-- The detached-count rule: SUSPECT with TARGET_STATE, or nothing (R114, R116). -/
theorem suspectIfReached_cases (s : State) :
    (s.target.state = .online ∧ s.target.detachLimit ≤ s.detachedCount ∧
      s.suspectIfReached = State.raise { s with target := { s.target with state := .suspect } } .targetState) ∨
    (¬(s.target.state = .online ∧ s.target.detachLimit ≤ s.detachedCount) ∧ s.suspectIfReached = s) := by
  unfold State.suspectIfReached
  split
  · rename_i h; exact .inl ⟨h.1, h.2, rfl⟩
  · exact .inr ⟨by assumption, rfl⟩

/-- The notices are the detached-count rule, and then a re-check or nothing. -/
theorem notices_cases (before s : State) :
    ∃ t, (t = s ∨ t = s.suspectIfReached) ∧ (State.notices before s = t.recheck ∨ State.notices before s = t) := by
  unfold State.notices
  simp only
  split
  · split
    · exact ⟨_, .inr rfl, .inl rfl⟩
    · exact ⟨_, .inr rfl, .inr rfl⟩
  · split
    · exact ⟨_, .inl rfl, .inl rfl⟩
    · exact ⟨_, .inl rfl, .inr rfl⟩

/-- Notices leave every entry. -/
theorem notices_tracker (before s : State) : (State.notices before s).tracker = s.tracker := by
  obtain ⟨t, ht, h⟩ := notices_cases before s
  have hts : t.tracker = s.tracker := by
    rcases ht with rfl | rfl
    · rfl
    · rcases suspectIfReached_cases s with ⟨-, -, e⟩ | ⟨-, e⟩ <;> rw [e]; rfl
  rcases h with h | h
  · rw [h, (recheck_onlyHeads t).tracker, hts]
  · rw [h, hts]

end Sys2Proof.Machine
end

