-- ==== Sys2Proof/Tests/Slice0.lean ====
section
/-!
SUPPORT. The model's own tests: ill-formed commands are refused by the check, single commands on small states give the values the
manual's rules and worked examples give, and every hypothesis of the statements is met by a concrete state.
-/

namespace Sys2Proof.Tests

open Sys2Proof Sys2Proof.Machine

set_option Elab.async false

/-! ### Ill-formed commands -/

theorem test_wf_request_beats_need_four_bits :
    (Instr.request 0 { tag := 0, op := .read, address := 0, beats := 16, data := [] }).wellFormed = false := by decide
theorem test_wf_request_of_nine_beats_can_arrive :
    (Instr.request 0 { tag := 0, op := .read, address := 0, beats := 15, data := [] }).wellFormed = true := by decide
theorem test_wf_defined_kind_is_no_undefined_kind :
    (Instr.undefinedKindMessage (.initiator 0) 1).wellFormed = false := by decide
theorem test_wf_credit_from_initiator_is_undefined :
    (Instr.undefinedKindMessage (.initiator 0) 4).wellFormed = true := by decide
theorem test_wf_kind_needs_four_bits : (Instr.undefinedKindMessage .target 16).wellFormed = false := by decide
theorem test_wf_response_count_needs_four_bits :
    (Instr.targetResponse { tag := 0, status := .okay, dataCount := 16, data := [] }).wellFormed = false := by decide
theorem test_wf_credit_count : (Instr.targetCredit 128).wellFormed = false := by decide
theorem test_wf_ack_count : (Instr.resyncAck 128).wellFormed = false := by decide
theorem test_wf_notice_count : (Instr.resetNotice 128).wellFormed = false := by decide
theorem test_wf_assigned_code : (Instr.unassignedCommand 0x7F).wellFormed = false := by decide
theorem test_wf_code_zero_is_unassigned : (Instr.unassignedCommand 0).wellFormed = true := by decide
theorem test_wf_owned_address : (Instr.registerWrite 0x98 0).wellFormed = false := by decide
theorem test_wf_argument_register : (Instr.registerWrite 0x15 0).wellFormed = true := by decide

/-! ### Small states -/

/-- The state a command answers. -/
def run (c : Instr) (s : State) : State :=
  match exec c s with
  | .next t => t
  | .fault f => nomatch f
  | .refused _ => s

/-- An open port 0 with its credits and queue. -/
def withPort (st : PortState) (granted : Nat) (queue : List Request) (s : State) : State :=
  s.modPort 0 fun _ => { state := st, granted := granted, queue := queue }

/-- The target in a state with credits. -/
def withTarget (st : TargetState) (credits : Nat) (s : State) : State :=
  { s with target := { s.target with state := st, credits := credits } }

/-- W1 of the worked example 4.9: lines 0-16383 to target line 65536. -/
def window1 : Window :=
  { enabled := true, baseLine := 0, limitLine := 16383, remapLine := 65536, ordering := .ordered
    rights := #v[.readWrite, .readWrite, .read, .readWrite] }

/-- A profile of port 0. -/
def withProfile (p : Profile) (s : State) : State :=
  { s with admission := { s.admission with profiles := s.admission.profiles.set 0 p } }

def withWindow (w : Window) (s : State) : State := { s with windows := s.windows.set 1 w }

def withArgument (v : Word) (s : State) : State := s.writeArgument v

def withStaging (v : Vector Word 8) (s : State) : State := s.setStaging v

/-- A one-beat READ of line 1. -/
def read1 (tag : Tag) : Request := { tag := tag, op := .read, address := 72, beats := 1, data := [] }

/-- A transaction of initiator 0 on target line 65537. -/
def live (ph : Phase) (tag : Option Tag) : Entry :=
  { phase := ph, initiator := 0, tag := tag, op := .read, requestAddress := 72, targetAddress := 4194376, beats := 1, window := 1
    cls := .normal, admissionTick := 0, expiryTick := none, writeData := [], predecessors := [], successors := [] }

/-- The state with entry 5 held by a transaction. -/
def withEntry (e : Entry) (s : State) : State := s.setEntry 5 (some e)

/-- ONLINE with 8 credits, W1 on, and port 0 ACTIVE with 8 credits. -/
def base : State := withPort .active 8 [] (withTarget .online 8 (withWindow window1 .reset))

/-- A queued head with its status. -/
def withHead (h : HeadStatus) (q : List Request) (s : State) : State := (withPort .active (8 - q.length) q s).setHead 0 h

def record : FaultRecord := { report := { kind := .linkReset, source := .initiator 2 }, tick := 7 }

def fullLog (s : State) : State := { s with faultLog := List.replicate 16 record }

/-- A control of counter 0: enabled, all initiators in the mask, COUNT mode. -/
def watching (event : BitVec 4) (s : State) : State :=
  s.modCounter 0 fun k => { k with control := { k.control with enable := true, event := event, mask := 0xF } }

/-! ### Messages from an initiator -/

theorem test_request_becomes_eligible_head :
    let t := run (.request 0 (read1 3)) base
    t.head 0 = .eligible ∧ (t.port 0).granted = 7 ∧ (t.port 0).queue = [read1 3] := by decide +kernel
theorem test_request_outside_windows_is_err_decode :
    (run (.request 0 { read1 3 with address := 1048576 }) base).sentTo 0 = [.response 3 .errDecode [], .credit 1] := by decide +kernel
theorem test_link_reset_sends_nothing_and_fences :
    let t := run (.linkReset 0) (withEntry (live .issued (some 3)) base)
    (t.port 0).state = .fenced ∧ t.sentTo 0 = [] ∧ (t.entry 5).map Entry.phase = some (.detached .linkReset) := by decide +kernel
theorem test_link_reset_when_disabled_only_records :
    let t := run (.linkReset 1) State.reset
    t.flag (.portReset 1) = false ∧ t.faultLog.map FaultRecord.report = [{ kind := .linkReset, source := .initiator 1 }] := by
  decide +kernel
theorem test_undefined_kind_from_target_is_bad_response :
    (run (.undefinedKindMessage .target 5) base).faultLog.map FaultRecord.report = [{ kind := .badResponse, source := .target }] := by
  decide +kernel

/-! ### Messages from the target -/

theorem test_response_completes_read :
    let t := run (.targetResponse { tag := 5, status := .okay, dataCount := 1, data := [Vector.replicate 8 0xAB] })
      (withEntry (live .issued (some 3)) base)
    t.sentTo 0 = [.response 3 .okay [Vector.replicate 8 0xAB]] ∧ t.entry 5 = none ∧ t.monitor.bins[0][0] = 1 := by decide +kernel
theorem test_response_of_wrong_shape_is_err_target :
    let t := run (.targetResponse { tag := 5, status := .okay, dataCount := 0, data := [] }) (withEntry (live .issued (some 3)) base)
    t.sentTo 0 = [.response 3 .errTarget []] ∧ t.flag .fault = true := by decide +kernel
theorem test_credit_above_64_is_held :
    let t := run (.targetCredit 60) base
    t.target.credits = 64 ∧ t.faultLog.map FaultRecord.report = [{ kind := .targetCreditOverflow, source := .target }] := by
  decide +kernel
theorem test_credit_in_offline_is_discarded : run (.targetCredit 60) State.reset = State.reset := by decide +kernel
theorem test_ack_in_resyncing_ends_quarantine :
    let t := run (.resyncAck 40) (withTarget .resyncing 0 (withEntry (live (.detached .resync) none) base))
    t.target.state = .online ∧ t.target.credits = 40 ∧ t.entry 5 = none ∧ t.sentTo 0 = [] := by decide +kernel
theorem test_ack_when_online_is_unexpected :
    (run (.resyncAck 40) base).faultLog.map FaultRecord.report = [{ kind := .unexpectedAck, source := .target }] := by decide +kernel
theorem test_notice_answers_issued :
    let t := run (.resetNotice 64) (withEntry (live .issued (some 9)) base)
    t.sentTo 0 = [.response 9 .errTarget []] ∧ t.entry 5 = none ∧ t.target.credits = 64 := by decide +kernel

/-! ### The part's own events -/

theorem test_tick_wraps :
    (run .tick { State.reset with timebase := { State.reset.timebase with count := 0xFFFFFFFF } }).timebase.count = 0 := by
  decide +kernel
theorem test_tick_adds_to_ticks_counter : ((run .tick (watching 12 State.reset)).counter 0).value = 1 := by decide +kernel
theorem test_expiry_detaches_issued :
    let t := run .expiryClaim (withEntry { live .issued (some 3) with expiryTick := some 0 } base)
    t.sentTo 0 = [.response 3 .errTimeout []] ∧ (t.entry 5).map Entry.phase = some (.detached .timeout) := by decide +kernel
theorem test_expiry_waits_for_its_tick :
    run .expiryClaim (withEntry { live .issued (some 3) with expiryTick := some 1 } base) =
      withEntry { live .issued (some 3) with expiryTick := some 1 } base := by decide +kernel

/-- METERED with budget 32 and carry limit 8, as IP2 of the worked example 5.8. -/
def metered : Profile :=
  { cls := .normal, mode := .metered, budget := 32, carryLimit := 8, reserved := 4, cap := 64, deadline := 0 }

/-- The worked example 5.8 at the last tick of a period: 4 beats are unspent. -/
def budgetState : State :=
  let s := (withProfile metered base).setRemaining 0 4
  { s with regulation := { s.regulation with period := 100, timer := some { ticks := 99, expiryDue := true } } }

/-- The period timer of the worked example, with its elapsed count. -/
def atElapsed (n : Nat) : State :=
  { budgetState with regulation := { budgetState.regulation with timer := some { ticks := n } } }

/-- A RESYNCING target with its ticks left. -/
def resyncing (left : Nat) (due : Bool := false) : State :=
  let s := withTarget .resyncing 0 base
  { s with target := { s.target with resyncTimer := some { ticks := left, expiryDue := due } } }

/-- The sample of a tick that comes after the tick's last expiry reads the state after it: TRACKER_USE of DETACHED entries (R159). -/
theorem test_owed_sample_follows_last_expiry :
    let s := (watching 9 (withEntry { live .issued (some 3) with expiryTick := some 0 } base)).modCounter 0 fun k =>
      { k with control := { k.control with qualifier := 2 } }
    let t := run .expiryClaim { s with sampleOwed := true }
    (t.counter 0).value = 1 ∧ t.sampleOwed = false := by decide +kernel
theorem test_period_expiry_carries_4 : (run .periodExpiry budgetState).remaining 0 = 36 := by decide +kernel
theorem test_period_expiry_carry_is_limited : (run .periodExpiry (budgetState.setRemaining 0 18)).remaining 0 = 40 := by decide +kernel
/-- The tick at elapsed 98 counts; the tick at 99 is the expiry, which returns the count to 0 when it is taken (R83, R86). -/
theorem test_period_timer_expires_at_its_period :
    (run .tick (atElapsed 98)).regulation.timer = some { ticks := 99 } ∧ (atElapsed 99).regulation.countTick = budgetState.regulation ∧
      (run .periodExpiry budgetState).regulation.timer = some { ticks := 0 } := by decide +kernel
theorem test_resync_wait_expiry_goes_offline :
    let t := run .resyncWaitExpiry (resyncing 1 true)
    t.target.state = .offline ∧ t.target.resyncTimer = none ∧
      t.faultLog.map FaultRecord.report = [{ kind := .resyncTimeout, source := .target }] := by decide +kernel
/-- The last tick is the expiry and stands due: the register never shows 0 while RUNNING, and an acknowledgement taken first drops it
(R97, R112). -/
theorem test_resync_wait_last_tick :
    (run .tick (resyncing 2)).target = (resyncing 1).target ∧ (resyncing 1).target.countTick = (resyncing 1 true).target ∧
      (resyncing 1 true).readWord 0x64 = 1 ∧
      (run .resyncWaitExpiry (run (.resyncAck 4) (resyncing 1 true))).target.state = .online := by decide +kernel
theorem test_grant_remaps :
    let t := run .grant (withHead .eligible [read1 3] base)
    (t.entry 0).map Entry.targetAddress = some 4194376 ∧ t.target.normalQueue = [0] ∧ t.sentTo 0 = [.credit 1] := by decide +kernel
theorem test_grant_waits_behind_write :
    let t := run .grant (withHead .eligible [read1 3] (withEntry { live .issued (some 1) with op := .write } base))
    (t.entry 0).map Entry.predecessors = some [5] ∧ (t.entry 0).map Entry.phase = some .waiting := by decide +kernel

/-- Entry 5 READY in the NORMAL queue. -/
def issuable : State :=
  let s := withEntry (live .ready (some 3)) base
  { s with target := { s.target with normalQueue := [5] } }

theorem test_issue_sends_request :
    let t := run .issue issuable
    t.links.toTarget = [.request 5 .read 1 4194376 []] ∧ t.target.credits = 7 ∧ (t.entry 5).map Entry.phase = some .issued := by
  decide +kernel
theorem test_issue_needs_credit : run .issue (withTarget .online 0 issuable) = withTarget .online 0 issuable := by decide +kernel
theorem test_drain_completion_revokes :
    let t := run (.drainCompletion 0) (withPort .draining 6 [] base)
    t.sentTo 0 = [.revoke] ∧ t.port 0 = { state := .fenced, granted := 0, queue := [] } ∧ t.flag (.drainDone 0) = true := by
  decide +kernel
theorem test_device_reset_prescaler :
    (run .deviceReset (run .deviceReset (run (.prescalerWrite 7) base))).timebase.prescaler = 100 := by decide +kernel
/-- While RST_N is low a REQUEST is lost, no tick occurs, and the bus drives nothing (R195). -/
theorem test_reset_held_ignores_everything :
    let s := run .deviceReset base
    run (.request 0 (read1 3)) s = s ∧ run .tick s = s ∧ run (.interruptEnablesWrite 0xFFFF) s = s ∧ s.refclk = s ∧
      s.busDrives { mcsN := false, mrdN := false, mwrN := true, address := 0x00, data := 0 } = none := by decide +kernel

/-! ### Commands -/

theorem test_port_enable_sends_credit_8 :
    let t := run .portEnable State.reset
    t.sentTo 0 = [.credit 8] ∧ t.port 0 = { state := .active, granted := 8, queue := [] } := by decide +kernel
theorem test_port_enable_refused_when_active :
    let t := run .portEnable base
    t.management.status = .refusedState ∧ t.flag .commandRefused = true := by decide +kernel
theorem test_port_drain_refuses_queue_then_revokes :
    (run .portDrain (withHead (.waiting .budget) [read1 3] base)).sentTo 0 = [.response 3 .errRefused [], .credit 1, .revoke] := by
  decide +kernel
theorem test_port_fence_order :
    let t := run .portFence (withEntry (live .issued (some 9)) (withHead .eligible [read1 3] base))
    t.sentTo 0 = [.response 3 .errRefused [], .response 9 .errRefused [], .revoke] ∧
      (t.entry 5).map Entry.phase = some (.detached .fence) := by decide +kernel
theorem test_target_resync_starts_wait :
    let t := run .targetResync base
    t.target.state = .resyncing ∧ t.target.resyncTimer = some { ticks := 4096 } ∧ t.links.toTarget = [.resync] := by decide +kernel
/-- Either order of a REQUEST and a drain's notice (R41), and a traffic reset before the notice: no REVOKE (R48). -/
theorem test_events_at_a_due_drain :
    let s := withPort .draining 8 [] base
    (run (.request 0 (read1 3)) s).sentTo 0 = [.response 3 .errRefused [], .credit 1] ∧
      (run (.request 0 (read1 3)) (run (.drainCompletion 0) s)).sentTo 0 = [.revoke, .response 3 .errRefused []] ∧
      (run .trafficReset s).sentTo 0 = [.linkReset] ∧ (run .portFence s).management.status = .refusedState := by decide +kernel

/-- The re-check refuses the head and the request behind it, each answered and then credited (R61). -/
theorem test_target_offline_refuses_heads :
    let t := run .targetOffline (withHead .eligible [read1 3, read1 4] base)
    t.sentTo 0 = [.response 3 .errTarget [], .credit 1, .response 4 .errTarget [], .credit 1] ∧ t.head 0 = .noHead := by decide +kernel
theorem test_target_offline_refused_when_offline : (run .targetOffline State.reset).management.status = .refusedState := by
  decide +kernel

/-- W3 of the worked example 4.9 as staged: on, UNORDERED, lines 32768-33791 to 81920, IP2 WRITE and IP3 READ_WRITE. -/
def stagedW3 : Vector Word 8 := #v[0x0101, 0x3200, 0x8000, 0x0000, 0x83FF, 0x0000, 0x4000, 0x0001]

theorem test_write_window_takes_image :
    (run .writeWindow (withArgument 3 (withStaging stagedW3 base))).windows[3] =
      { enabled := true, baseLine := 32768, limitLine := 33791, remapLine := 81920, ordering := .unordered
        rights := #v[.none, .none, .write, .readWrite] } := by decide +kernel
theorem test_write_window_refuses_reversed_range :
    let t := run .writeWindow (withArgument 3 (withStaging (stagedW3.set 5 0x0000 |>.set 4 0x7FFF) base))
    t.management.status = .invalid ∧ t.flag .configError = true := by decide +kernel
theorem test_read_window_gives_image :
    (run .readWindow (run .writeWindow (withArgument 3 (withStaging stagedW3 base)))).management.staging = stagedW3 := by decide +kernel
theorem test_write_profile_takes_fields :
    (run .writeProfile (withArgument 2 (withStaging #v[0x0101, 32, 8, 4, 64, 100, 9, 9] base))).profile 2 =
      { cls := .high, mode := .metered, budget := 32, carryLimit := 8, reserved := 4, cap := 64, deadline := 100 } := by
  decide +kernel
theorem test_write_profile_refuses_cap_below_reserved :
    (run .writeProfile (withStaging #v[0, 0, 0, 4, 3, 0, 0, 0] base)).management.status = .invalid := by decide +kernel
theorem test_read_profile_shows_remaining :
    (run .readProfile (base.setRemaining 0 65540)).management.staging = #v[0, 0, 0, 4, 64, 0, 4, 1] := by decide +kernel
theorem test_write_edges_takes_seven :
    (run .writeEdges (withStaging #v[1, 2, 3, 4, 5, 6, 7, 0] base)).monitor.edges = #v[1, 2, 3, 4, 5, 6, 7] := by decide +kernel
theorem test_write_edges_refuses_equal_edges :
    (run .writeEdges (withStaging #v[1, 2, 3, 3, 5, 6, 7, 0] base)).monitor.edges = #v[16, 32, 64, 128, 256, 512, 1024] := by
  decide +kernel
theorem test_budget_reload : (run .budgetReload budgetState).remaining 0 = 32 := by decide +kernel
theorem test_hist_clear :
    (run .histClear (base.binLatency 0 20)).monitor.bins[0] = Vector.replicate 8 0 ∧ (base.binLatency 0 20).monitor.bins[0][1] = 1 := by
  decide +kernel
theorem test_freeze_drops_report :
    ((run .tick (run .counterFreeze (watching 12 base))).counter 0).value = 0 := by decide +kernel
theorem test_unfreeze_runs : (run .counterUnfreeze (base.setBank .frozen)).monitor.bank = .running := by decide +kernel
theorem test_counter_clear : ((run .counterClear (run .tick (watching 12 base))).counter 0).value = 0 := by decide +kernel
theorem test_snapshot_registers :
    let t := run .trackerSnapshot (withArgument 5 (withEntry (live .issued (some 3)) base))
    t.readWord 0x20 = 0x0003 ∧ t.readWord 0x22 = 0x0113 ∧ t.readWord 0x25 = 0x0048 ∧ t.readWord 0x26 = 0x0040 := by decide +kernel
theorem test_fault_pop_takes_oldest :
    (run .faultPop (run (.linkReset 1) { State.reset with faultLog := [record] })).faultLog.map (fun f => f.report.source) =
      [.initiator 1] := by decide +kernel
theorem test_fault_pop_of_empty_log : (run .faultPop base).management.status = .refusedState := by decide +kernel
theorem test_traffic_reset_sends_link_reset :
    let t := run .trafficReset (withEntry (live .issued (some 3)) base)
    t.sentTo 0 = [.linkReset] ∧ t.sentTo 1 = [] ∧ t.links.toTarget = [.linkReset] ∧ t.entry 5 = none ∧ t.windows = base.windows := by
  decide +kernel
theorem test_unassigned_command_is_unknown : (run (.unassignedCommand 0x1234) base).readWord 0x16 = 0x3403 := by decide +kernel

/-! ### Registers -/

theorem test_prescaler_zero_is_one : (run (.prescalerWrite 0) base).timebase.prescaler = 1 := by decide +kernel
theorem test_prescaler_is_at_most_256 : (run (.prescalerWrite 1000) base).timebase.prescaler = 256 := by decide +kernel
theorem test_period_zero_stops : (run (.regulationPeriodWrite 0) budgetState).regulation.timer = none := by decide +kernel
theorem test_detach_limit_reached_is_suspect :
    (run (.detachLimitWrite 1) (withEntry (live (.detached .timeout) none) base)).target.state = .suspect := by decide +kernel
theorem test_detach_limit_is_at_most_64 : (run (.detachLimitWrite 65) base).target.detachLimit = 64 := by decide +kernel
theorem test_resync_wait_zero_is_one : (run (.resyncWaitWrite 0) base).target.resyncWait = 1 := by decide +kernel
theorem test_tick_low_read_latches :
    let t := run .tickCountLowRead { State.reset with timebase := { State.reset.timebase with count := 0x12345678 } }
    t.management.busData = some 0x5678 ∧ t.readWord 0x0D = 0x1234 := by decide +kernel
theorem test_flags_write_clears_ones :
    (run (.interruptFlagsWrite 0x0200) ((State.reset.raise .fault).raise .faultLost)).interrupts.flags = 0x0400 := by decide +kernel
theorem test_enables_drive_int :
    (run (.interruptEnablesWrite 0x0200) (State.reset.raise .fault)).intLow = true := by decide +kernel
theorem test_counter_write_joins_words :
    ((run (.counterValueLowWrite 2 0x5678) (run (.counterValueHighWrite 2 0x1234) base)).counter 2).value = 0x12345678 := by
  decide +kernel
theorem test_counter_low_read_latches :
    let t := run (.counterValueLowRead 2) (base.modCounter 2 fun k => { k with value := 0x12345678 })
    t.management.busData = some 0x5678 ∧ t.readWord 0x89 = 0x1234 := by decide +kernel
theorem test_control_a_reads_back_undefined_codes : (run (.counterControlWrite 5 .a 0xFFFF) base).readWord 0x96 = 0x07FF := by
  decide +kernel
theorem test_control_b_reads_back : (run (.counterControlWrite 5 .b 0xFFFF) base).readWord 0x97 = 0xFF3F := by decide +kernel
theorem test_overflow_flags_write_one_clears :
    ((run (.counterOverflowFlagsWrite 0x0002) (base.modCounter 1 fun k => { k with overflow := true })).counter 1).overflow = false := by
  decide +kernel
theorem test_histogram_index :
    let t := run (.histogramIndexWrite 0xFFFA) base
    t.management.histogramBin = 2 ∧ t.management.histogramInitiator = 3 ∧ t.readWord 0xA8 = 0x001A := by decide +kernel
theorem test_staging_write : (run (.stagingWrite 7 0xBEEF) base).readWord 0x1F = 0xBEEF := by decide +kernel
theorem test_register_write_argument : (run (.registerWrite 0x15 0xBEEF) base).management.argument = 0xBEEF := by decide +kernel
theorem test_register_write_read_only_is_ignored : run (.registerWrite 0x00 0xBEEF) base = base := by decide +kernel

/-! ### Bus cycles (R186) -/

theorem test_bus_both_strobes_low_is_ignored :
    let b : BusCycle := { mcsN := false, mrdN := false, mwrN := false, address := 0x15, data := 0xBEEF }
    base.busCycle b = .next base ∧ base.busDrives b = none := ⟨rfl, rfl⟩
theorem test_bus_command_write :
    writeCommandAt 0x14 0x11 = .targetOffline ∧ writeCommandAt 0x14 0x12 = .unassignedCommand 0x12 ∧
      writeCommandAt 0x8E 7 = .counterControlWrite 3 .a 7 ∧ writeCommandAt 0x00 7 = .registerWrite 0x00 7 := by decide +kernel
theorem test_bus_read_drives_the_word :
    let b : BusCycle := { mcsN := false, mrdN := false, mwrN := true, address := 0x00, data := 0 }
    base.busDrives b = some 0x0464 ∧ readCommandAt 0x84 = some (.counterValueLowRead 1) ∧ readCommandAt 0x85 = none := by
  decide +kernel

/-! ### Headers -/

/-- RESPONSE to tag 9, ERR_DENIED, no data: kind 3, tag 9, status 4, data count 0. -/
theorem test_response_header_sent :
    (ToInitiator.response 9 .errDenied []).header =
      [false, false, true, true, true, false, false, true, true, false, false, false, false, false, false] := by decide +kernel
/-- CREDIT 8 to an initiator, and RESYNC to the target. -/
theorem test_credit_and_resync_headers_sent :
    (ToInitiator.credit 8).header = [false, true, false, false, false, false, false, true, false, false, false] ∧
      ToTarget.resync.header = [false, true, true, false] := by decide +kernel

/-- A READ of 1 beat at address 72 under tag 3: kind 1, tag 3, op 0, beats 1, address. -/
theorem test_request_header :
    ({ header := [false, false, false, true, false, false, true, true, false, false, false, false, true] ++ List.replicate 25 false ++
         [true, false, false, true, false, false, false], records := [] } : FromInitiator).command 2 =
      some (.request 2 (read1 3)) := by decide +kernel
/-- RESYNC_ACK with count 40. -/
theorem test_ack_header :
    ({ header := [false, true, true, true, false, true, false, true, false, false, false], records := [] } : FromTarget).command =
      some (.resyncAck 40) := by decide +kernel

/-! ### Witnesses: states that meet the hypotheses of the statements, clause by clause -/

/-- Entry 5 ISSUED for initiator 0 under tag 3. -/
def issued : State := withEntry (live .issued (some 3)) base
/-- Entry 5 DETACHED. -/
def detached : State := withEntry (live (.detached .timeout) none) base
/-- Port 0 DRAINING with a transaction still out, and with none. -/
def draining : State := withPort .draining 8 [] issued
def drained : State := withPort .draining 8 [] base

/-- The last tick of a RESYNCING target's wait has come. -/
def waitedOut : State := resyncing 1 true

/-- Every state below has RST_N high: none of the helpers changes the pin. -/
theorem witness_rstN_high :
    (∀ s ∈ [State.reset, base, issued, detached, draining, drained, waitedOut, issuable, budgetState, atElapsed 98], s.rstN = true) ∧
    (∀ (s : State) (st : PortState) (n : Nat) (q : List Request), (withPort st n q s).rstN = s.rstN) ∧
    (∀ (s : State) (st : TargetState) (n : Nat), (withTarget st n s).rstN = s.rstN) ∧
    (∀ (s : State) (e : Entry), (withEntry e s).rstN = s.rstN) ∧
    (∀ (s : State) (h : HeadStatus) (q : List Request), (withHead h q s).rstN = s.rstN) ∧
    (∀ (s : State) (p : Profile), (withProfile p s).rstN = s.rstN) ∧
    (∀ (s : State) (v : Word), (withArgument v s).rstN = s.rstN) ∧
    (∀ (s : State) (v : Vector Word 8), (withStaging v s).rstN = s.rstN) ∧
    (∀ (s : State) (n : BitVec 4), (watching n s).rstN = s.rstN) ∧ (∀ s : State, (fullLog s).rstN = s.rstN) :=
  ⟨by decide, fun _ _ _ _ => rfl, fun _ _ _ => rfl, fun _ _ => rfl, fun _ _ _ => rfl, fun _ _ => rfl, fun _ _ => rfl, fun _ _ => rfl,
    fun _ _ => rfl, fun _ => rfl⟩
theorem witness_DeviceReset_low : (run .deviceReset base).rstN = false ∧ Instr.tick ≠ .deviceReset := by
  decide +kernel

theorem witness_StepTakesFrontCommand : ({ base with pending := [.tick, .grant] } : State).pending = .tick :: [.grant] := rfl
theorem witness_IdleStep_counting :
    let s := { State.reset with timebase := { State.reset.timebase with progress := 98 } }
    s.pending = [] ∧ s.timebase.progress + 1 < s.timebase.prescaler := by decide
theorem witness_IdleStep_tick :
    let s := { State.reset with timebase := { State.reset.timebase with progress := 99 } }
    s.pending = [] ∧ s.timebase.prescaler ≤ s.timebase.progress + 1 := by decide
theorem witness_RequestIsDiscarded_closed : (State.reset.port 0).state = .disabled := by decide
theorem witness_RequestIsDiscarded_no_credit :
    ((withPort .active 0 [] base).port 0).state = .active ∧ ((withPort .active 0 [] base).port 0).granted = 0 := by decide +kernel
theorem witness_RequestIsDiscarded_tag_of_entry :
    (draining.port 0).state = .draining ∧ (draining.port 0).granted ≠ 0 ∧
      (∃ e ∈ draining.entry 5, e.initiator = 0 ∧ e.phase.live = true ∧ e.tag = some 3) := by decide +kernel
theorem witness_RequestIsDiscarded_tag_in_queue :
    let s := withHead .eligible [read1 3] base
    (s.port 0).state = .active ∧ (s.port 0).granted ≠ 0 ∧ ∃ q ∈ (s.port 0).queue, q.tag = 3 := by decide +kernel
theorem witness_RequestRefusedOnArrival_fenced : ((withPort .fenced 0 [] base).port 0).state = .fenced := by decide
theorem witness_RequestRefusedOnArrival_open :
    (drained.port 0).state = .draining ∧ (drained.port 0).granted ≠ 0 ∧ drained.duplicateTag 0 4 = false ∧
      (draining.port 0).state = .draining ∧ (draining.port 0).granted ≠ 0 ∧ draining.duplicateTag 0 4 = false ∧ requestMalformed (read1 4) = false := by decide +kernel
theorem witness_RequestRefusedOnArrival_malformed :
    let r : Request := { read1 4 with address := 120, beats := 2 }
    (base.port 0).state = .active ∧ (base.port 0).granted ≠ 0 ∧ base.duplicateTag 0 r.tag = false ∧
      64 < r.address.toNat % 64 + 8 * r.beats ∧ ¬64 < r.address.toNat % 64 + 8 * (r.beats - 1) := by decide +kernel
theorem witness_RequestIsQueued_behind :
    let s := withHead .eligible [read1 3] base
    (s.port 0).state = .active ∧ (s.port 0).granted ≠ 0 ∧ s.duplicateTag 0 4 = false ∧ requestMalformed (read1 4) = false ∧
      (s.port 0).queue ≠ [] := by decide +kernel
theorem witness_RequestIsQueued_pass :
    (base.port 0).state = .active ∧ (base.port 0).granted ≠ 0 ∧ base.duplicateTag 0 4 = false ∧
      requestMalformed (read1 4) = false ∧ (base.port 0).queue = [] ∧ base.verdict 0 (read1 4) = .pass := by decide +kernel
theorem witness_RequestIsQueued_wait_budget :
    let s := (withProfile metered base).setRemaining 0 0
    (s.port 0).state = .active ∧ (s.port 0).queue = [] ∧ s.verdict 0 (read1 4) = .wait .budget := by decide +kernel
theorem witness_RequestIsQueued_wait_target : (withTarget .resyncing 0 base).verdict 0 (read1 4) = .wait .target := by
  decide +kernel
theorem witness_RequestIsQueued_wait_halt :
    (withProfile { metered with mode := .halted } base).verdict 0 (read1 4) = .wait .halt := by decide +kernel
theorem witness_RequestIsQueued_wait_quota :
    (withProfile { metered with mode := .free, reserved := 0, cap := 1 } issued).verdict 0 (read1 4) = .wait .quota := by
  decide +kernel
theorem witness_RequestIsQueued_refuse :
    base.verdict 0 { read1 4 with address := 1048576 } = .refuse .decode ∧
      base.verdict 2 { read1 4 with op := .write } = .refuse .denied ∧
      (withTarget .suspect 8 base).verdict 0 (read1 4) = .refuse .target := by decide +kernel
theorem witness_DueDrainComesFirst : drained.drainDue 0 = true ∧ drained.management.argument.toNat = 0 := by decide +kernel
theorem witness_LinkResetClosesPort : base.openPort 0 = true ∧ ((withPort .fenced 0 [] base).port 0).state = .fenced := by
  decide +kernel
theorem witness_LinkResetAtDisabledPort : (base.port 3).state = .disabled := by decide
theorem witness_UndefinedKind : (Link.initiator 0).definesKind 3 = false ∧ Link.target.definesKind 1 = false := by decide
theorem witness_ArrivingMessage_initiator :
    (Instr.request 2 (read1 3)).wellFormed = true ∧ (initiatorMessage (.request 2 (read1 3))).isSome = true := by decide
theorem witness_ArrivingMessage_target :
    (Instr.targetCredit 127).wellFormed = true ∧ (targetMessage (.targetCredit 127)).isSome = true := by decide
theorem witness_SentHeaders : (List.replicate 8 (Vector.replicate 8 0) : List DataBeat).length ≤ 8 ∧ 127 < 128 ∧ 15 < 16 := by decide
theorem witness_ResponseCompletes :
    issued.target.state ≠ .resyncing ∧ issued.entry 5 = some (live .issued (some 3)) ∧ issued.monitor.mayFreeze = false ∧
      edgesValid issued.monitor.edges = true := by decide +kernel
theorem witness_LateResponse :
    detached.target.state ≠ .resyncing ∧ detached.entry 5 = some (live (.detached .timeout) none) := by decide +kernel
theorem witness_StrayResponse_free : base.target.state ≠ .resyncing ∧ ∀ e ∈ base.entry 63, e.phase = .waiting ∨ e.phase = .ready := by
  decide +kernel
theorem witness_StrayResponse_ready : issuable.target.state ≠ .resyncing ∧ (issuable.entry 5).map Entry.phase = some .ready := by
  decide +kernel
theorem witness_TargetCreditsAdd :
    base.target.state = .online ∧ base.target.credits + 56 ≤ 64 ∧ 64 < base.target.credits + 57 ∧
      (withTarget .suspect 0 base).target.state = .suspect := by decide
theorem witness_TargetCreditsAdd_away :
    State.reset.target.state = .offline ∧ (withTarget .resyncing 0 base).target.state = .resyncing := by decide
theorem witness_Acknowledgement :
    (withTarget .resyncing 0 detached).target.state = .resyncing ∧ (∃ e ∈ detached.entry 5, e.phase.isDetached = true) ∧
      base.target.state ≠ .resyncing ∧ State.reset.target.state = .offline := by decide +kernel
theorem witness_ResetNotice :
    issued.target.state = .online ∧ (withTarget .suspect 3 issued).target.state = .suspect ∧ 64 < 65 ∧ ¬64 < 64 := by decide
theorem witness_TickCountsAndSamples :
    let s := watching 12 (atElapsed 98)
    s.sampleOwed = false ∧ (∀ x : EntryIdx, ∀ e ∈ s.entry x, e.phase.live = true → e.expiryTick ≠ some s.timebase.count) ∧
      (∀ n ∈ s.regulation.timer, n.expiryDue = false) ∧
      ¬(s.target.state = .resyncing ∧ ∃ n ∈ s.target.resyncTimer, n.expiryDue = true) ∧ s.monitor.mayFreeze = false ∧ s.monitor.bank = .running ∧
      (s.counter 0).control.counting = some (.ticks, .count) ∧ Event.ticks.sampled = true ∧
      ¬(∃ n ∈ s.regulation.timer, s.regulation.period ≤ n.ticks + 1) := by decide +kernel
theorem witness_TickCountsAndSamples_started :
    let s := withEntry { live .issued (some 3) with expiryTick := some 1 } base
    s.sampleOwed = false ∧ (∀ x : EntryIdx, ∀ e ∈ s.entry x, e.phase.live = true → e.expiryTick ≠ some s.timebase.count) ∧
      s.regulation.timer = none ∧ s.target.state = .online ∧ s.timebase.count + 1 = 1 ∧
      (∃ e ∈ s.entry 5, e.phase.live = true ∧ e.expiryTick = some (s.timebase.count + 1)) := by decide +kernel
theorem witness_TickSettles_owed : ({ base with sampleOwed := true } : State).sampleOwed = true := rfl
theorem witness_ExpiryClaim :
    (withEntry { live .issued (some 3) with expiryTick := some 0 } base).entry 5 =
        some { live .issued (some 3) with expiryTick := some 0 } ∧
      (withEntry { live .issued (some 3) with expiryTick := some 0 } base).timebase.count = 0 ∧
      (withEntry { live .issued (some 3) with expiryTick := some 0 } base).sampleOwed = false ∧
      (withEntry { live .issued (some 3) with expiryTick := some 0 } base).TrackerLaws := by decide +kernel
theorem witness_PeriodExpiry :
    budgetState.regulation.timer = some { ticks := 99, expiryDue := true } ∧ budgetState.sampleOwed = false ∧
      (∀ n ∈ (atElapsed 99).regulation.timer, n.expiryDue = false) ∧ State.reset.regulation.timer = none := by decide
theorem witness_TargetGoesOffline :
    waitedOut.sampleOwed = false ∧ waitedOut.target.state = .resyncing ∧ (∃ n ∈ waitedOut.target.resyncTimer, n.expiryDue = true) ∧
      (∀ n ∈ (resyncing 1).target.resyncTimer, n.expiryDue = false) ∧ base.target.state ≠ .offline ∧
      State.reset.target.state = .offline := by decide
theorem witness_tracker_laws : issuable.TrackerLaws := by decide +kernel
theorem witness_GrantWinnerRule : (withHead .eligible [read1 3] base).grantWinner = some 0 := by decide +kernel
theorem witness_GrantAdmitsHead :
    ((withHead .eligible [read1 3] base).port 0).queue.head? = some (read1 3) ∧ base.grantWinner = none := by decide +kernel
theorem witness_IssueSendsRequest_normal :
    issuable.target.state = .online ∧ 0 < issuable.target.credits ∧ issuable.entry 5 = some (live .ready (some 3)) ∧
      issuable.target.normalQueue.head? = some 5 ∧ issuable.target.highQueue = [] := by decide +kernel
theorem witness_IssueSendsRequest_high :
    let s := { issuable with target := { issuable.target with highQueue := [5], consecutiveHigh := 3 } }
    s.target.highQueue.head? = some 5 ∧ s.target.consecutiveHigh < 4 ∧ ¬4 ≤ s.target.consecutiveHigh := by decide
theorem witness_IssueSendsRequest_none :
    State.reset.target.state = .offline ∧ (withTarget .online 0 issuable).target.credits = 0 ∧ base.target.highQueue = [] ∧
      base.target.normalQueue = [] := by decide
theorem witness_DrainCompletes :
    (drained.port 0).state = .draining ∧ drained.outstanding 0 = 0 ∧ (draining.port 0).state = .draining ∧
      draining.outstanding 0 ≠ 0 := by decide +kernel
theorem witness_PortCommands :
    base.management.argument.toNat = (0 : Initiator) ∧ (State.reset.port 0).state = .disabled ∧ base.openPort 0 = true ∧
      (base.port 0).state = .active ∧ (draining.port 0).state = .draining ∧ draining.openPort 0 = true ∧
      ((withPort .fenced 0 [] base).port 0).state = .fenced ∧ (withArgument 3 base).management.argument.toNat = (3 : Initiator) := by
  decide +kernel
theorem witness_TargetResync : base.target.state ≠ .resyncing ∧ waitedOut.target.state = .resyncing := by decide
theorem witness_WriteWindow_good :
    let s := withArgument 7 (withStaging stagedW3 base)
    s.management.argument.toNat = (7 : WindowIdx) ∧ s.stagedWindow.isSome = true ∧
      (s.staged 5).toNat * 65536 + (s.staged 4).toNat = 33791 := by decide +kernel
theorem witness_WriteWindow_bad :
    let s := withStaging (stagedW3.set 0 0x0201) base
    s.management.argument.toNat = (0 : WindowIdx) ∧ 1 < (s.staged 0).toNat / 256 ∧ s.stagedWindow = none := by decide +kernel
theorem witness_ReadWindowCopies : (withArgument 1 base).management.argument.toNat = (1 : WindowIdx) ∧
    (withArgument 1 base).windows[(1 : WindowIdx)].withinBounds = true := by decide +kernel
theorem witness_WriteProfile :
    let s := withStaging #v[0x0201, 0, 0, 16, 16, 0, 0, 0] base
    s.stagedProfile.isSome = true ∧ ¬(s.staged 4).toNat < (s.staged 3).toNat ∧
      (withStaging #v[0, 0, 0, 17, 64, 0, 0, 0] base).stagedProfile = none := by decide +kernel
theorem witness_ReadProfileCopies : base.ConfigBounds ∧ (base.setRemaining 0 131070).remaining 0 ≤ 131070 := by decide +kernel
theorem witness_WriteEdges :
    (withStaging #v[1, 2, 3, 4, 5, 6, 7, 0] base).stagedEdges.isSome = true ∧
      (withStaging #v[0, 2, 3, 4, 5, 6, 7, 0] base).stagedEdges = none := by decide +kernel
theorem witness_SnapshotCopiesEntry :
    (withArgument 63 base).management.argument.toNat = (63 : EntryIdx) ∧ base.entry 63 = none ∧
      (withArgument 5 issued).management.argument.toNat = (5 : EntryIdx) ∧ issued.entry 5 = some (live .issued (some 3)) ∧
      issued.TrackerLaws ∧ (live .issued (some 3)).beats ≤ 8 := by
  decide +kernel
theorem witness_FaultPop : (fullLog base).faultLog = record :: List.replicate 15 record ∧ base.faultLog = [] := by decide
theorem witness_RefusedCommands :
    (Instr.unassignedCommand 0).wellFormed = true ∧ 4 ≤ (withArgument 4 base).management.argument.toNat ∧
      64 ≤ (withArgument 64 base).management.argument.toNat := by decide
theorem witness_DetachLimit_reached :
    detached.target.state = .online ∧ max 1 (min 64 (BitVec.toNat (1 : Word))) ≤ detached.detachedCount := by decide +kernel
theorem witness_BusCycle : (false = true ∨ true = true) ∧ (0x00 : BitVec 8) ≠ 0x0C ∧
    ∀ c : CounterIdx, (0x81 : BitVec 8) ≠ BitVec.ofNat 8 (0x80 + 4 * c) := by decide
theorem witness_RegisterWrite : (Instr.registerWrite 0xFF 0).wellFormed = true ∧ (0xFF : BitVec 8) ≠ 0x15 := by decide
theorem witness_StatusRegisters :
    let s := fullLog issuable
    s.CreditLaw ∧ s.TargetCreditLaw ∧ s.QueuesHoldReady ∧ s.faultLog.head? = some record ∧ base.faultLog = [] := by decide +kernel
theorem witness_StatusRegisters_ranges : (fullLog issuable).RangesHold ∧ (fullLog issuable).ConfigBounds := by decide +kernel
theorem witness_HeadChecks :
    let s := withProfile metered (base.setRemaining 0 1)
    s.windows[(1 : WindowIdx)].enabled = true ∧ s.target.state = .online ∧ s.lookup 16383 = some 1 ∧ s.lookup 16384 = none ∧
      s.verdict 0 (read1 0) = .pass ∧ s.verdict 0 { read1 0 with beats := 2 } = .wait .budget ∧
      (withHead .eligible [read1 3] s).head 0 ≠ .noHead ∧ s.head 0 = .noHead := by decide +kernel
/-- A WRITE in entry 6 waits behind entry 5, ISSUED, DETACHED or READY. -/
def chained (e : Entry) : State :=
  (withEntry { e with successors := [6] } base).setEntry 6 (some { live .waiting (some 4) with predecessors := [5], op := .write })
theorem witness_Settles_freed :
    (chained (live .issued (some 3))).TrackerLaws ∧ (chained (live .issued (some 3))).target.state = .online := by decide +kernel
theorem witness_Settles_freed_detached :
    (chained (live (.detached .fence) none)).TrackerLaws ∧
      (withTarget .resyncing 0 (chained (live (.detached .fence) none))).target.state = .resyncing := by decide +kernel
theorem witness_Settles_freed_away : (withTarget .resyncing 0 (chained (live (.detached .fence) none))).TrackerLaws := by
  decide +kernel
theorem witness_Settles_claimed :
    let s := chained { live .issued (some 3) with expiryTick := some 0 }
    s.TrackerLaws ∧ s.sampleOwed = false ∧ s.openPort 0 = true ∧ s.management.argument.toNat = (0 : Initiator) ∧
      (∃ e ∈ s.entry 5, e.expiryTick = some s.timebase.count) := by decide +kernel
theorem test_completion_releases_successor :
    let t := run (.targetResponse { tag := 5, status := .okay, dataCount := 1, data := [Vector.replicate 8 0] })
      (chained (live .issued (some 3)))
    (t.entry 6).map Entry.phase = some .ready ∧ (t.entry 6).map Entry.predecessors = some [] ∧ t.target.normalQueue = [6] := by
  decide +kernel
theorem witness_FreeingReleasesSuccessors :
    let s := chained (live .issued (some 3))
    s.TrackerLaws ∧ (s.entry 5).isSome = true ∧ ((s.freeEntry 5).entry 6).map Entry.phase = some .ready := by decide +kernel
theorem witness_CountersTakeReports :
    ({ Control.reset with enable := true, mask := 1 } : Control).takes { event := .admitted, initiator := 0, qualifier := 2 } = true := by
  decide
theorem witness_CountersTakeReports_edges : edgesValid base.monitor.edges = true ∧ inBin base.monitor.edges 16 1 := by decide
theorem witness_CountersTakeReports_bank :
    base.monitor.bank = .running ∧ (base.setBank .frozen).monitor.bank = .frozen ∧
      (admitReports 0 (read1 3) true).Pairwise (fun a b => a.event ≠ b.event) := by decide
theorem witness_CreditLawIsKept :
    let s := { base with pending := [.request 0 (read1 3)] }
    s.CreditLaw ∧ (∃ t, step s = .next t) := ⟨by decide +kernel, _, rfl⟩
theorem witness_TargetLawsAreKept :
    let s := { detached with pending := [.targetOffline] }
    (s.TargetCreditLaw ∧ s.NoneIssuedWhileAway ∧ s.QuarantineLaw) ∧ (∃ t, step s = .next t) := ⟨by decide +kernel, _, rfl⟩
theorem witness_TrackerLawsAreKept :
    let s := { issuable with pending := [.issue] }
    (s.TrackerLaws ∧ s.OfflineIsQuiet) ∧ s.TagsDistinct ∧ (∃ t, step s = .next t) :=
  ⟨⟨by decide +kernel, fun h => absurd h (by decide)⟩, by decide +kernel, _, rfl⟩
theorem witness_HeadStatusesStayTrue :
    let s := { withHead .eligible [read1 3] base with pending := [.targetResync] }
    s.HeadsTrue ∧ (∃ t, step s = .next t) := ⟨by decide +kernel, _, rfl⟩
theorem witness_BoundsAreKept :
    let s := { issued with pending := [.tick] }
    (s.ConfigBounds ∧ s.RangesHold ∧ s.QueuedWellFormed ∧ s.EntriesInRange) ∧ (∃ t, step s = .next t) := ⟨by decide +kernel, _, rfl⟩
theorem witness_EveryRequestIsAnsweredOnce :
    (Instr.request 0 (read1 4)).wellFormed = true ∧ issuable.TrackerLaws ∧ issuable.owed 0 = 1 ∧
      (run (.request 0 (read1 4)) issuable).owed 0 = 2 := by decide +kernel

end Sys2Proof.Tests
end

section
/-!
The tracker's own operations under the tracker's laws (R1, R2, R3): what freeing, detaching, issuing and allocating make of every entry
and of both issue queues, and that each keeps the laws.
-/

namespace Sys2Proof.Machine

/-! ### Entry indices and lists in ascending order -/

theorem mem_entryIndices (x : EntryIdx) : x ∈ entryIndices := List.mem_finRange x

theorem pairwise_entryIndices : entryIndices.Pairwise (· < ·) := List.pairwise_lt_finRange 64

theorem nodup_of_ascending {l : List EntryIdx} (h : l.Pairwise (· < ·)) : l.Nodup := h.imp fun hab => ne_of_lt hab

/-- A list in ascending order whose members are all `x` is `[x]` when it is not empty. -/
theorem filter_ne_eq_nil_iff {l : List EntryIdx} (h : l.Pairwise (· < ·)) (x : EntryIdx) :
    l.filter (· ≠ x) = [] ↔ l = [] ∨ l = [x] := by
  constructor
  · intro hl
    have hx : ∀ a ∈ l, a = x := by simpa using List.filter_eq_nil_iff.mp hl
    match l, h, hx with
    | [], _, _ => exact .inl rfl
    | [a], _, hx => exact .inr (by rw [hx a (by simp)])
    | a :: b :: l, h, hx =>
      have hab : a < b := List.rel_of_pairwise_cons h (by simp)
      exact absurd hab (by rw [hx a (by simp), hx b (by simp)]; exact lt_irrefl x)
  · rintro (rfl | rfl) <;> simp

/-- Two lists in ascending order with the same members are the same. -/
theorem ascending_ext {l m : List EntryIdx} (hl : l.Pairwise (· < ·)) (hm : m.Pairwise (· < ·)) (h : ∀ x, x ∈ l ↔ x ∈ m) : l = m :=
  hl.eq_of_mem_iff hm h

theorem filter_ne_of_not_mem {l : List EntryIdx} {x : EntryIdx} (h : x ∉ l) : l.filter (· ≠ x) = l := by
  rw [List.filter_eq_self]
  rintro a ha
  simpa using ne_of_mem_of_not_mem ha h

/-! ### The laws, read off -/

/-- The dependency lists mirror one another, member by member (R2). -/
theorem exists_predecessor_iff {s : State} (h : s.ListsMirror) (x y : EntryIdx) :
    (∃ e, s.entry x = some e ∧ y ∈ e.predecessors) ↔ ∃ f, s.entry y = some f ∧ x ∈ f.successors := by
  have hm := Bool.eq_iff_iff.mp (h.2 x y)
  simpa only [Option.any_eq_true, List.contains_iff_mem] using hm

theorem mem_predecessors_iff {s : State} (h : s.ListsMirror) {x y : EntryIdx} {e f : Entry} (hx : s.entry x = some e)
    (hy : s.entry y = some f) : y ∈ e.predecessors ↔ x ∈ f.successors := by
  have hm := exists_predecessor_iff h x y
  simpa [hx, hy] using hm

/-- Nothing names a FREE entry as its predecessor, nor as its successor. -/
theorem not_mem_lists_of_free {s : State} (h : s.ListsMirror) {x y : EntryIdx} {f : Entry} (hx : s.entry x = none)
    (hy : s.entry y = some f) : x ∉ f.predecessors ∧ x ∉ f.successors := by
  constructor
  · intro hm
    obtain ⟨g, hg, -⟩ := (exists_predecessor_iff h y x).mp ⟨f, hy, hm⟩
    simp [hx] at hg
  · intro hm
    obtain ⟨g, hg, -⟩ := (exists_predecessor_iff h x y).mpr ⟨f, hy, hm⟩
    simp [hx] at hg

/-- Only a READY entry of the class stands in an issue queue (R3). -/
theorem mem_highQueue_iff {s : State} (h : s.QueuesHoldReady) (x : EntryIdx) :
    x ∈ s.target.highQueue ↔ ∃ e, s.entry x = some e ∧ e.phase = .ready ∧ e.cls = .high := by
  rw [(h.2.2 x).1, Option.any_eq_true]
  simp

theorem mem_normalQueue_iff {s : State} (h : s.QueuesHoldReady) (x : EntryIdx) :
    x ∈ s.target.normalQueue ↔ ∃ e, s.entry x = some e ∧ e.phase = .ready ∧ e.cls = .normal := by
  rw [(h.2.2 x).2, Option.any_eq_true]
  simp

/-! ### Joining the issue queues -/

/-- The issue queue of a class. -/
def TargetPort.queueOf (t : TargetPort) : Cls → List EntryIdx
  | .high => t.highQueue
  | .normal => t.normalQueue

@[simp] theorem TargetPort.queueOf_high (t : TargetPort) : t.queueOf .high = t.highQueue := rfl
@[simp] theorem TargetPort.queueOf_normal (t : TargetPort) : t.queueOf .normal = t.normalQueue := rfl

/-- Is entry `x` held, with class `c`? -/
def State.hasClass (s : State) (c : Cls) (x : EntryIdx) : Bool := (s.entry x).any fun e => e.cls = c

/-- What an entry that joins its queue makes of the queue of each class (R3, R98). -/
theorem queueOf_enqueue (s : State) (x : EntryIdx) (c : Cls) :
    (s.enqueue x).target.queueOf c = s.target.queueOf c ++ if s.hasClass c x then [x] else [] := by
  unfold State.enqueue State.hasClass
  cases hx : s.entry x with
  | none => simp
  | some e => cases he : e.cls <;> cases c <;> simp [he]

/-- The entries of a list that join one after another stand at the tail of the queue of their class, in the list's order. -/
theorem queueOf_foldl_enqueue (l : List EntryIdx) (s : State) (c : Cls) :
    (l.foldl State.enqueue s).target.queueOf c = s.target.queueOf c ++ l.filter (s.hasClass c) := by
  induction l generalizing s with
  | nil => simp
  | cons x l ih =>
    have hc : (s.enqueue x).hasClass c = s.hasClass c := by
      funext y; simp only [State.hasClass, State.entry, enqueue_tracker]
    rw [List.foldl_cons, ih, queueOf_enqueue, hc, List.filter_cons]
    cases s.hasClass c x <;> simp

/-- One issue queue holds the READY entries of its class, each once (R3, R98). -/
theorem queuesHoldReady_iff (s : State) :
    s.QueuesHoldReady ↔ ∀ c, (s.target.queueOf c).Nodup ∧
      ∀ x, x ∈ s.target.queueOf c ↔ ∃ e, s.entry x = some e ∧ e.phase = .ready ∧ e.cls = c := by
  constructor
  · intro h c
    cases c with
    | high => exact ⟨h.1, mem_highQueue_iff h⟩
    | normal => exact ⟨h.2.1, mem_normalQueue_iff h⟩
  · intro h
    refine ⟨(h .high).1, (h .normal).1, fun x => ⟨?_, ?_⟩⟩
    · rw [← TargetPort.queueOf_high, (h .high).2, Option.any_eq_true]; simp
    · rw [← TargetPort.queueOf_normal, (h .normal).2, Option.any_eq_true]; simp

/-! ### Freeing (R9, R10) -/

/-- What the freeing of `x` makes of another entry under the tracker's laws: `x` leaves its lists, and an entry that waits for `x` alone
becomes READY (R9). -/
def Entry.without (f : Entry) (x : EntryIdx) : Entry :=
  { f with
    phase := if f.predecessors = [x] then .ready else f.phase
    predecessors := f.predecessors.filter (· ≠ x)
    successors := f.successors.filter (· ≠ x) }

/-- The entry waits for `x` alone. -/
def State.waitsOnlyFor (s : State) (x y : EntryIdx) : Bool := (s.entry y).any fun f => f.predecessors = [x]

section
variable {s : State} (h : s.TrackerLaws)
include h

theorem dropPredecessor_eq {y : EntryIdx} {f : Entry} (hy : s.entry y = some f) (x : EntryIdx) :
    f.dropPredecessor x =
      { f with phase := if f.predecessors = [x] then .ready else f.phase, predecessors := f.predecessors.filter (· ≠ x) } := by
  obtain ⟨hshape, ⟨hlists, -⟩, -⟩ := h
  obtain ⟨-, -, -, hwait⟩ := hshape y f hy
  have hnil := filter_ne_eq_nil_iff (hlists y f hy).1 x
  unfold Entry.dropPredecessor
  by_cases hp : f.predecessors = [x]
  · have hw : f.phase = .waiting := hwait.mpr (by simp [hp])
    simp [hp, hw]
  · have : ¬(f.phase = .waiting ∧ f.predecessors.filter (· ≠ x) = []) := by
      rintro ⟨hw, hf⟩
      exact (hnil.mp hf).elim (hwait.mp hw) hp
    simp only [hp, if_false, if_neg this]

/-- What freeing makes of another entry (R9). -/
theorem unlink_eq_without {x y : EntryIdx} {e f : Entry} (hx : s.entry x = some e) (hy : s.entry y = some f) (hxy : y ≠ x) :
    unlink x e y (some f) = some (f.without x) := by
  have hdrop := dropPredecessor_eq h hy x
  obtain ⟨-, hmirror, -⟩ := h
  have hp := mem_predecessors_iff hmirror hy hx
  have hs := mem_predecessors_iff hmirror hx hy
  simp only [unlink, hxy, if_false, Option.map_some, Option.some.injEq, Entry.without]
  have hdrop' : (if y ∈ e.successors then f.dropPredecessor x else f) =
      { f with phase := if f.predecessors = [x] then .ready else f.phase, predecessors := f.predecessors.filter (· ≠ x) } := by
    split
    · exact hdrop
    · rename_i hn
      have hnot : x ∉ f.predecessors := fun hm => hn (hp.mp hm)
      have hne : f.predecessors ≠ [x] := fun he => hnot (by simp [he])
      rw [filter_ne_of_not_mem hnot, if_neg hne]
  rw [hdrop']
  split
  · rfl
  · rename_i hn
    rw [filter_ne_of_not_mem fun hm => hn (hs.mpr hm)]

/-- Every entry after the freeing of `x` (R9). -/
theorem entry_freeEntry_eq {x : EntryIdx} {e : Entry} (hx : s.entry x = some e) (y : EntryIdx) :
    (s.freeEntry x).entry y = if y = x then none else (s.entry y).map (·.without x) := by
  rw [entry_freeEntry s x y e hx]
  by_cases hxy : y = x
  · simp [unlink, hxy]
  · cases hy : s.entry y with
    | none => simp [unlink, hxy]
    | some f => rw [unlink_eq_without h hx hy hxy, if_neg hxy]; rfl

/-- The entries that the freeing of `x` releases (R9). -/
theorem releasedBy_iff {x y : EntryIdx} {e : Entry} (hx : s.entry x = some e) :
    (y ∈ e.successors ∧ ((s.entry y).any fun f => f.releasedBy x) = true) ↔ s.waitsOnlyFor x y = true := by
  obtain ⟨hshape, hmirror, -⟩ := h
  simp only [State.waitsOnlyFor, Option.any_eq_true, Entry.releasedBy, decide_eq_true_eq]
  constructor
  · rintro ⟨-, f, hy, hw, hf⟩
    have hwait := (hshape y f hy).2.2.2
    exact ⟨f, hy, ((filter_ne_eq_nil_iff (hmirror.1 y f hy).1 x).mp hf).resolve_left (hwait.mp hw)⟩
  · rintro ⟨f, hy, hp⟩
    have hwait := (hshape y f hy).2.2.2
    exact ⟨(mem_predecessors_iff hmirror hy hx).mp (by simp [hp]), f, hy, hwait.mpr (by simp [hp]), by simp [hp]⟩

/-- The queue of each class after the freeing of `x`: `x` has left it, and at its tail stand the entries of the class that waited for `x`
alone, in ascending index (R9, R10). -/
theorem queueOf_freeEntry {x : EntryIdx} {e : Entry} (hx : s.entry x = some e) (c : Cls) :
    (s.freeEntry x).target.queueOf c =
      (s.target.queueOf c).filter (· ≠ x) ++ entryIndices.filter fun y => s.waitsOnlyFor x y && s.hasClass c y := by
  have hunq : (s.unqueue x).target.queueOf c = (s.target.queueOf c).filter (· ≠ x) := by cases c <;> rfl
  have hcls : ∀ y, ((s.unqueue x).mapEntries (unlink x e)).hasClass c y = (s.hasClass c y && decide (y ≠ x)) := fun y => by
    rw [State.hasClass, entry_mapEntries, show (s.unqueue x).entry y = s.entry y from rfl, State.hasClass]
    by_cases hxy : y = x
    · simp [unlink, hxy]
    · cases hy : s.entry y with
      | none => simp [unlink, hxy]
      | some f => simp [unlink_eq_without h hx hy hxy, Entry.without, hxy]
  have hrel := fun y => releasedBy_iff h (y := y) hx
  have hself : s.waitsOnlyFor x x = false := by
    have := (h.2.1.1 x e hx).2.2.1
    simpa [State.waitsOnlyFor, hx] using fun hp => this (by simp [hp])
  unfold State.freeEntry
  simp only [hx]
  rw [queueOf_foldl_enqueue, State.mapEntries_target, hunq, List.filter_filter]
  rw [List.append_cancel_left_eq]
  have hasc := (h.2.1.1 x e hx).2.1
  refine ascending_ext (hasc.filter _) (pairwise_entryIndices.filter _) fun y => ?_
  have hy := hrel y
  simp only [List.mem_filter, Bool.and_eq_true, hcls, decide_eq_true_eq, mem_entryIndices, true_and]
  constructor
  · rintro ⟨hm, ⟨hc, -⟩, ha⟩
    exact ⟨hy.mp ⟨hm, ha⟩, hc⟩
  · rintro ⟨hw, hc⟩
    exact ⟨(hy.mpr hw).1, ⟨hc, by rintro rfl; simp [hself] at hw⟩, (hy.mpr hw).2⟩

end

end Sys2Proof.Machine
end

section
/-!
What freeing, detaching, issuing and allocating keep of the tracker's laws (R1, R2, R3).
-/

namespace Sys2Proof.Machine

/-! ### The laws after a freeing -/

section
variable {s : State} {x : EntryIdx} {e : Entry} (h : s.TrackerLaws) (hx : s.entry x = some e)
include h hx

/-- An entry that a freeing leaves is another entry than the freed one, and was held before. -/
theorem entry_freeEntry_some {y : EntryIdx} {g : Entry} (hy : (s.freeEntry x).entry y = some g) :
    y ≠ x ∧ ∃ f, s.entry y = some f ∧ g = f.without x := by
  rw [entry_freeEntry_eq h hx] at hy
  split at hy
  · simp at hy
  · rename_i hne
    obtain ⟨f, hf, rfl⟩ := Option.map_eq_some_iff.mp hy
    exact ⟨hne, f, hf, rfl⟩

theorem entryShape_freeEntry : (s.freeEntry x).EntryShape := by
  intro y g hg
  obtain ⟨-, f, hf, rfl⟩ := entry_freeEntry_some h hx hg
  obtain ⟨hshape, hmirror, -⟩ := h
  obtain ⟨hlive, hexp, hdata, hwait⟩ := hshape y f hf
  have hnil := filter_ne_eq_nil_iff (hmirror.1 y f hf).1 x
  by_cases hp : f.predecessors = [x]
  · have hw : f.phase = .waiting := hwait.mpr (by simp [hp])
    refine ⟨?_, ?_, ?_, ?_⟩ <;> simp [Entry.without, hp, Phase.isDetached]
    simpa [Phase.live, hw] using hlive
  · refine ⟨?_, ?_, ?_, ?_⟩ <;> simp only [Entry.without, hp, if_false]
    · exact hlive
    · exact hexp
    · exact hdata
    · rw [hwait, not_iff_not, hnil]
      simp [hp]

theorem listsMirror_freeEntry : (s.freeEntry x).ListsMirror := by
  obtain ⟨-, hmirror, -⟩ := id h
  constructor
  · intro y g hg
    obtain ⟨-, f, hf, rfl⟩ := entry_freeEntry_some h hx hg
    obtain ⟨hp, hs, hnp, hns⟩ := hmirror.1 y f hf
    exact ⟨hp.filter _, hs.filter _, fun hm => hnp (List.mem_filter.mp hm).1, fun hm => hns (List.mem_filter.mp hm).1⟩
  · intro y z
    have hyz := exists_predecessor_iff hmirror y z
    rw [Bool.eq_iff_iff, Option.any_eq_true, Option.any_eq_true, entry_freeEntry_eq h hx, entry_freeEntry_eq h hx]
    by_cases hy : y = x
    · simp [hy, Entry.without]
    · by_cases hz : z = x
      · simp [hz, Entry.without]
      · simpa [hy, hz, Entry.without] using hyz

theorem queuesHoldReady_freeEntry : (s.freeEntry x).QueuesHoldReady := by
  rw [queuesHoldReady_iff]
  intro c
  obtain ⟨hshape, -, hready⟩ := id h
  obtain ⟨hnodup, hmem⟩ := (queuesHoldReady_iff s).mp hready c
  have hwaits : ∀ y, s.waitsOnlyFor x y = true ↔ ∃ f, s.entry y = some f ∧ f.predecessors = [x] := fun y => by
    simp [State.waitsOnlyFor, Option.any_eq_true]
  have hclass : ∀ y, s.hasClass c y = true ↔ ∃ f, s.entry y = some f ∧ f.cls = c := fun y => by
    simp [State.hasClass, Option.any_eq_true]
  rw [queueOf_freeEntry h hx]
  constructor
  · refine (hnodup.filter _).append ((nodup_of_ascending pairwise_entryIndices).filter _) fun y hy hy' => ?_
    simp only [List.mem_filter, Bool.and_eq_true, hwaits] at hy hy'
    obtain ⟨f, hf, hr, -⟩ := (hmem y).mp hy.1
    obtain ⟨-, ⟨g, hg, hp⟩, -⟩ := hy'
    obtain rfl : f = g := Option.some.inj (hf.symm.trans hg)
    have hw := (hshape y f hf).2.2.2.mpr (by simp [hp])
    simp [hr] at hw
  · intro y
    rw [List.mem_append, List.mem_filter, List.mem_filter, hmem, entry_freeEntry_eq h hx, Bool.and_eq_true, hwaits, hclass]
    have hxx : ∀ f, s.entry x = some f → f.predecessors ≠ [x] := fun f hf hp =>
      (h.2.1.1 x f hf).2.2.1 (by simp [hp])
    by_cases hy : y = x
    · subst hy
      simp only [ne_eq, not_true_eq_false, decide_false, Bool.false_eq_true, and_false, false_or, if_true, reduceCtorEq, false_and,
        exists_false, iff_false]
      rintro ⟨-, ⟨f, hf, hp⟩, -⟩
      exact hxx f hf hp
    · cases hf : s.entry y with
      | none => simp [hy]
      | some f =>
        by_cases hp : f.predecessors = [x] <;> simp [hy, hp, mem_entryIndices, Entry.without]

/-- Freeing an entry keeps the tracker's laws (R2, R3, R9). -/
theorem trackerLaws_freeEntry : (s.freeEntry x).TrackerLaws :=
  ⟨entryShape_freeEntry h hx, listsMirror_freeEntry h hx, queuesHoldReady_freeEntry h hx⟩

end

/-! ### Detachment and issue -/

/-- An entry changed in its phase, its tag, its expiry tick and its write data alone keeps the lists mirrored. -/
theorem listsMirror_setEntry {s : State} {x : EntryIdx} {e f : Entry} (h : s.ListsMirror) (hx : s.entry x = some e)
    (hp : f.predecessors = e.predecessors) (hs : f.successors = e.successors) : (s.setEntry x (some f)).ListsMirror := by
  constructor
  · intro y g hg
    rw [Option.mem_def, entry_setEntry] at hg
    split at hg
    · rename_i hxy
      cases hg
      subst hxy
      rw [hp, hs]
      exact h.1 x e hx
    · exact h.1 y g hg
  · intro y z
    have any_eq : ∀ (p : Entry → Bool) (w : EntryIdx), p f = p e → ((s.setEntry x (some f)).entry w).any p = (s.entry w).any p :=
      fun p w hpe => by
        rw [entry_setEntry]
        split
        · rename_i hxw; subst hxw; simp [hx, hpe]
        · rfl
    rw [any_eq _ y (by rw [hp]), any_eq _ z (by rw [hs])]
    exact h.2 y z

/-- Detaching an ISSUED entry keeps the tracker's laws (R15). -/
theorem trackerLaws_detachEntry {s : State} {x : EntryIdx} {e : Entry} (h : s.TrackerLaws) (hx : s.entry x = some e)
    (hi : e.phase = .issued) (c : DetachCause) : (s.detachEntry x e c).TrackerLaws := by
  obtain ⟨hshape, hmirror, hready⟩ := h
  refine ⟨fun y g hg => ?_, listsMirror_setEntry hmirror hx rfl rfl, (queuesHoldReady_iff _).mpr fun d => ?_⟩
  · rw [Option.mem_def, State.detachEntry, entry_setEntry] at hg
    split at hg
    · cases hg
      have hw := (hshape x e hx).2.2.2
      simp only [hi, reduceCtorEq, false_iff, not_not] at hw
      simp [Entry.detach, Phase.live, hw]
    · exact hshape y g hg
  · obtain ⟨hnodup, hmem⟩ := (queuesHoldReady_iff s).mp hready d
    refine ⟨hnodup, fun y => ?_⟩
    rw [State.detachEntry, State.setEntry_target, hmem, entry_setEntry]
    split
    · rename_i hxy; subst hxy; simp [hx, hi, Entry.detach]
    · rfl

/-- The issue arbiter's winner stands at the head of the queue of its class (R99). -/
theorem queueOf_of_winner {t : TargetPort} {c : Cls} {x : EntryIdx} (h : t.winner = some (c, x)) :
    ∃ l, t.queueOf c = x :: l ∧ ∀ d, (t.afterIssue c).queueOf d = if d = c then l else t.queueOf d := by
  unfold TargetPort.winner at h
  split at h
  · cases h
  · rename_i hq _; cases h; exact ⟨_, hq, fun d => by cases d <;> simp [TargetPort.afterIssue, hq]⟩
  · rename_i hn; cases h; exact ⟨_, hn, fun d => by cases d <;> simp [TargetPort.afterIssue, hn]⟩
  · rename_i hq hn
    split at h <;> cases h
    · exact ⟨_, hq, fun d => by cases d <;> simp [TargetPort.afterIssue, hq]⟩
    · exact ⟨_, hn, fun d => by cases d <;> simp [TargetPort.afterIssue, hn]⟩

/-- The winner is READY, and of the class it won in (R3, R99). -/
theorem ready_of_winner {s : State} {x : EntryIdx} {e : Entry} {c : Cls} (h : s.QueuesHoldReady) (hw : s.target.winner = some (c, x))
    (hx : s.entry x = some e) : e.phase = .ready ∧ e.cls = c := by
  obtain ⟨l, hl, -⟩ := queueOf_of_winner hw
  obtain ⟨f, hf, hr, hc⟩ := (((queuesHoldReady_iff s).mp h c).2 x).mp (by simp [hl])
  obtain rfl : e = f := Option.some.inj (hx.symm.trans hf)
  exact ⟨hr, hc⟩

/-- Issuing the winner, at the head of the queue of its class, keeps the tracker's laws (R12, R99). -/
theorem trackerLaws_issue {s : State} {x : EntryIdx} {e : Entry} {c : Cls} (h : s.TrackerLaws) (hw : s.target.winner = some (c, x))
    (hx : s.entry x = some e) :
    (State.setEntry { s with target := s.target.afterIssue c } x (some { e with phase := .issued, writeData := [] })).TrackerLaws := by
  obtain ⟨hshape, hmirror, hready⟩ := h
  obtain ⟨l, hl, hafter⟩ := queueOf_of_winner hw
  have hphase := ready_of_winner hready hw hx
  have hready := (queuesHoldReady_iff s).mp hready
  refine ⟨fun y g hg => ?_, listsMirror_setEntry (s := { s with target := s.target.afterIssue c }) hmirror hx rfl rfl,
    (queuesHoldReady_iff _).mpr fun d => ?_⟩
  · rw [Option.mem_def, entry_setEntry] at hg
    split at hg
    · cases hg
      obtain ⟨hlive, -, -, hwait⟩ := hshape x e hx
      simp only [hphase.1, reduceCtorEq, false_iff, not_not] at hwait
      simpa [Phase.live, Phase.isDetached, hwait, hphase.1] using hlive
    · exact hshape y g hg
  · obtain ⟨hnodup, hmem⟩ := hready d
    rw [State.setEntry_target, hafter]
    have hmem' : ∀ y, (∃ g, (State.setEntry { s with target := s.target.afterIssue c } x
        (some { e with phase := .issued, writeData := [] })).entry y = some g ∧ g.phase = .ready ∧ g.cls = d) ↔
        y ∈ s.target.queueOf d ∧ y ≠ x := fun y => by
      rw [hmem, entry_setEntry]
      split
      · rename_i hxy; simp [hxy]
      · rename_i hxy; simp [Ne.symm hxy, State.entry]
    by_cases hd : d = c
    · subst hd
      rw [hl] at hnodup hmem'
      simp only [if_true]
      refine ⟨(List.nodup_cons.mp hnodup).2, fun y => ?_⟩
      rw [hmem', List.mem_cons]
      constructor
      · exact fun hy => ⟨.inr hy, ne_of_mem_of_not_mem hy (List.nodup_cons.mp hnodup).1⟩
      · rintro ⟨hy | hy, hne⟩
        · exact absurd hy hne
        · exact hy
    · simp only [hd, if_false]
      refine ⟨hnodup, fun y => ?_⟩
      rw [hmem']
      constructor
      · intro hy
        refine ⟨hy, ?_⟩
        rintro rfl
        obtain ⟨f, hf, -, hc⟩ := (hmem y).mp hy
        obtain rfl : e = f := Option.some.inj (hx.symm.trans hf)
        exact hd (hc.symm.trans hphase.2)
      · exact And.left

/-! ### Allocation (R6, R7, R8) -/

theorem mem_insertAscending {x y : EntryIdx} {l : List EntryIdx} : y ∈ insertAscending x l ↔ y = x ∨ y ∈ l := by
  induction l with
  | nil => simp [insertAscending]
  | cons a l ih =>
    unfold insertAscending
    split
    · simp
    · split
      · rename_i hxa; simp [hxa]
      · simp only [List.mem_cons, ih]; tauto

theorem pairwise_insertAscending {x : EntryIdx} {l : List EntryIdx} (h : l.Pairwise (· < ·)) :
    (insertAscending x l).Pairwise (· < ·) := by
  induction l with
  | nil => simp [insertAscending]
  | cons a l ih =>
    obtain ⟨ha, hl⟩ := List.pairwise_cons.mp h
    unfold insertAscending
    split
    · rename_i hxa
      refine List.pairwise_cons.mpr ⟨fun b hb => ?_, h⟩
      rcases List.mem_cons.mp hb with rfl | hb
      · exact hxa
      · exact hxa.trans (ha b hb)
    · split
      · exact h
      · rename_i hxa hne
        refine List.pairwise_cons.mpr ⟨fun b hb => ?_, ih hl⟩
        rcases mem_insertAscending.mp hb with rfl | hb
        · exact lt_of_le_of_ne (not_lt.mp hxa) (Ne.symm hne)
        · exact ha b hb

/-- The predecessors of a new entry are held, in ascending order (R7). -/
theorem predecessorsOf_held (s : State) (r : Request) (w : WindowIdx) :
    (s.predecessorsOf r w).Pairwise (· < ·) ∧ ∀ y ∈ s.predecessorsOf r w, (s.entry y).isSome = true := by
  unfold State.predecessorsOf State.predecessorsFor
  cases s.windows[w].ordering with
  | unordered => simp
  | ordered =>
    refine ⟨pairwise_entryIndices.filter _, fun y hy => ?_⟩
    obtain ⟨f, hf, -⟩ := Option.any_eq_true _ _ |>.mp (List.mem_filter.mp hy).2
    simp [hf]

/-- Every entry after an allocation (R6, R7). -/
theorem entry_allocate (s : State) (x : EntryIdx) (i : Initiator) (r : Request) (w : WindowIdx) (y : EntryIdx) :
    (s.allocate x i r w).entry y =
      if y = x then some (newEntry s i r w (s.predecessorsOf r w))
      else if y ∈ s.predecessorsOf r w then (s.entry y).map (·.addSuccessor x) else s.entry y := by
  unfold State.allocate
  simp only
  split
  · rw [entry_of_tracker (enqueue_tracker _ _), entry_mapEntries]
  · rw [entry_mapEntries]

/-- The queue of each class after an allocation: a new entry without predecessors joins the tail of the queue of its class (R8). -/
theorem queueOf_allocate (s : State) (x : EntryIdx) (i : Initiator) (r : Request) (w : WindowIdx) (c : Cls) :
    (s.allocate x i r w).target.queueOf c =
      s.target.queueOf c ++ if s.predecessorsOf r w = [] ∧ (s.profile i).cls = c then [x] else [] := by
  unfold State.allocate
  simp only
  split
  · rename_i hp
    rw [queueOf_enqueue, State.mapEntries_target]
    simp [hp, State.hasClass, entry_mapEntries, newEntry]
  · rename_i hp; simp [hp]

section
variable {s : State} {x : EntryIdx} (i : Initiator) (r : Request) (w : WindowIdx) (h : s.TrackerLaws) (hx : s.entry x = none)
include h hx

omit hx in
theorem entryShape_allocate : (s.allocate x i r w).EntryShape := by
  intro y g hg
  rw [Option.mem_def, entry_allocate] at hg
  split at hg
  · cases hg
    by_cases hp : s.predecessorsOf r w = [] <;> simp [newEntry, hp, Phase.live, Phase.isDetached]
  · split at hg
    · obtain ⟨f, hf, rfl⟩ := Option.map_eq_some_iff.mp hg
      exact h.1 y f hf
    · exact h.1 y g hg

theorem listsMirror_allocate : (s.allocate x i r w).ListsMirror := by
  obtain ⟨-, hmirror, -⟩ := h
  obtain ⟨hasc, hheld⟩ := predecessorsOf_held s r w
  have hself : x ∉ s.predecessorsOf r w := fun hm => by simpa [hx] using hheld x hm
  constructor
  · intro y g hg
    rw [Option.mem_def, entry_allocate] at hg
    split at hg
    · cases hg
      rename_i hy
      subst hy
      exact ⟨hasc, List.Pairwise.nil, hself, List.not_mem_nil⟩
    · rename_i hyx
      split at hg
      · obtain ⟨f, hf, rfl⟩ := Option.map_eq_some_iff.mp hg
        obtain ⟨hp, hs, hnp, hns⟩ := hmirror.1 y f hf
        exact ⟨hp, pairwise_insertAscending hs, hnp, fun hm => (mem_insertAscending.mp hm).elim hyx hns⟩
      · exact hmirror.1 y g hg
  · intro y z
    have hyz := exists_predecessor_iff hmirror y z
    have hno := fun a (f : Entry) (hf : s.entry a = some f) => not_mem_lists_of_free hmirror hx hf
    rw [Bool.eq_iff_iff, Option.any_eq_true, Option.any_eq_true, entry_allocate, entry_allocate]
    simp only [List.contains_iff_mem]
    by_cases hy : y = x
    · subst hy
      by_cases hz : z = y
      · simp [hz, hself, newEntry]
      · simp only [if_true, Option.some.injEq, exists_eq_left', hz, if_false, newEntry]
        by_cases hzp : z ∈ s.predecessorsOf r w
        · obtain ⟨f, hf⟩ := Option.isSome_iff_exists.mp (hheld z hzp)
          simp [hzp, hf, Entry.addSuccessor, mem_insertAscending]
        · simp only [hzp, if_false, false_iff, not_exists, not_and]
          exact fun f hf => (hno z f hf).2
    · by_cases hz : z = x
      · subst hz
        simp only [hy, if_false, if_true, Option.some.injEq, exists_eq_left', newEntry, List.not_mem_nil, iff_false, not_exists,
          not_and]
        intro f hf
        split at hf
        · obtain ⟨f', hf', rfl⟩ := Option.map_eq_some_iff.mp hf
          exact (hno y f' hf').1
        · exact (hno y f hf).1
      · simp only [hy, hz, if_false]
        have hl : (∃ g, (if y ∈ s.predecessorsOf r w then (s.entry y).map (·.addSuccessor x) else s.entry y) = some g ∧
            z ∈ g.predecessors) ↔ ∃ g, s.entry y = some g ∧ z ∈ g.predecessors := by
          split
          · simp [Entry.addSuccessor]
          · rfl
        have hr : (∃ g, (if z ∈ s.predecessorsOf r w then (s.entry z).map (·.addSuccessor x) else s.entry z) = some g ∧
            y ∈ g.successors) ↔ ∃ g, s.entry z = some g ∧ y ∈ g.successors := by
          split
          · simp [Entry.addSuccessor, mem_insertAscending, hy]
          · rfl
        rw [hl, hr, hyz]

theorem queuesHoldReady_allocate : (s.allocate x i r w).QueuesHoldReady := by
  rw [queuesHoldReady_iff]
  intro c
  obtain ⟨-, -, hready⟩ := id h
  obtain ⟨hnodup, hmem⟩ := (queuesHoldReady_iff s).mp hready c
  have hxq : x ∉ s.target.queueOf c := fun hm => by
    obtain ⟨f, hf, -⟩ := (hmem x).mp hm
    simp [hx] at hf
  rw [queueOf_allocate]
  constructor
  · refine hnodup.append (by split <;> simp) fun y hy hy' => ?_
    split at hy'
    · rw [List.mem_singleton] at hy'; exact hxq (hy' ▸ hy)
    · exact List.not_mem_nil hy'
  · intro y
    rw [List.mem_append, entry_allocate]
    by_cases hy : y = x
    · subst hy
      by_cases hp : s.predecessorsOf r w = [] <;> by_cases hc : (s.profile i).cls = c <;> simp [hp, hc, hxq, newEntry]
    · have htail : y ∉ (if s.predecessorsOf r w = [] ∧ (s.profile i).cls = c then [x] else []) := by
        split <;> simp [hy]
      rw [hmem]
      simp only [htail, or_false, hy, if_false]
      split
      · simp [Entry.addSuccessor]
      · rfl

/-- Allocating a FREE entry keeps the tracker's laws (R6, R7, R8). -/
theorem trackerLaws_allocate : (s.allocate x i r w).TrackerLaws :=
  ⟨entryShape_allocate i r w h, listsMirror_allocate i r w h hx, queuesHoldReady_allocate i r w h hx⟩

end

end Sys2Proof.Machine
end

section
/-!
What a freeing leaves (R9), and O51: freeing releases exactly the entries that waited for the freed one alone.
-/

namespace Sys2Proof.Machine

@[simp] theorem enqueue_links (s : State) (x : EntryIdx) : (s.enqueue x).links = s.links := by
  unfold State.enqueue
  repeat' split
  all_goals rfl

theorem foldl_enqueue_links (l : List EntryIdx) (s : State) : (l.foldl State.enqueue s).links = s.links := by
  induction l generalizing s with
  | nil => rfl
  | cons x l ih => exact (ih _).trans (enqueue_links s x)

/-- Freeing sends nothing (R9). -/
@[simp] theorem freeEntry_links (s : State) (x : EntryIdx) : (s.freeEntry x).links = s.links := by
  unfold State.freeEntry
  split
  · rfl
  · rw [foldl_enqueue_links, State.mapEntries_links, State.unqueue_links]

theorem mem_initiators (i : Initiator) : i ∈ initiators := List.mem_finRange i

/-- What a claim may change: entries, issue queues and, by its answers, the initiator links. -/
theorem OnlyClaims.frame {s t : State} (h : OnlyClaims s t) : s.Frame t (Piece.ofClaim ++ initiators.map .link) := by
  refine ⟨h.pending, fun p hp => ?_⟩
  obtain ⟨⟨tr, hq, nq, li, rfl⟩, -⟩ := h
  simp only [Piece.ofClaim, List.mem_append, List.mem_cons, List.mem_map, not_or, not_exists, not_and] at hp
  obtain ⟨⟨hhigh, hnormal, hentry⟩, hlink⟩ := hp
  cases p with
  | entry x => exact absurd rfl (hentry x (mem_entryIndices x))
  | highQueue => exact absurd rfl hhigh
  | normalQueue => exact absurd rfl hnormal
  | link i => exact absurd rfl (hlink i (mem_initiators i))
  | histogramIndex => exact decide_eq_true ⟨rfl, rfl⟩
  | _ => exact decide_eq_true rfl

/-- Pieces of a frame's list that are the same may be struck off it. -/
theorem frame_strike {s t : State} {l m : List Piece} (h : s.Frame t (l ++ m)) (hm : ∀ p ∈ m, p.same s t = true) : s.Frame t l :=
  ⟨h.1, fun p hp => by
    by_cases hpm : p ∈ m
    · exact hm p hpm
    · exact h.2 p (by simp [hp, hpm])⟩

theorem freeEntry_frame (s : State) (x : EntryIdx) : s.Frame (s.freeEntry x) Piece.ofClaim := by
  refine frame_strike (freeEntry_onlyClaims s x).frame fun p hp => ?_
  obtain ⟨i, -, rfl⟩ := List.mem_map.mp hp
  simp [Piece.same, State.sentTo]

/-- Settles O51: the freed entry's record and its places in the lists and queues go, and each successor it alone held back is READY at
the tail of the queue of its class. -/
theorem freeingReleasesSuccessors : Obligations.FreeingReleasesSuccessors := by
  intro s x e h hx
  have hreleased : ∀ c, (entryIndices.filter fun y => s.waitsOnlyFor x y && s.hasClass c y) =
      entryIndices.filter fun y => (s.entry y).any fun f => f.predecessors = [x] && f.cls = c := fun c =>
    List.filter_congr fun y _ => by
      unfold State.waitsOnlyFor State.hasClass
      cases s.entry y <;> rfl
  refine ⟨entry_freeEntry_self s x, ?_, ?_, fun y hy => ?_, freeEntry_frame s x⟩
  · rw [← TargetPort.queueOf_high, queueOf_freeEntry h hx, hreleased]; rfl
  · rw [← TargetPort.queueOf_normal, queueOf_freeEntry h hx, hreleased]; rfl
  · rw [entry_freeEntry_eq h hx, if_neg hy]; rfl

end Sys2Proof.Machine
end

section
/-!
What one event can do to the part, said once: `Calm`, an event that leaves the tracker and the issue queues, and `Move`, which adds the
events that change them. Every command is a sequence of moves (`exec_moves`), and an invariant of the moves is one of every step.
-/

namespace Sys2Proof.Machine

/-! ### The ranges of the records, counts and timers, block by block -/

/-- A committed profile within the ranges of its fields (R49). -/
def Profile.InRange (p : Profile) : Prop :=
  p.withinBounds = true ∧ p.budget ≤ 65535 ∧ p.carryLimit ≤ 65535 ∧ p.deadline ≤ 65535

/-- The edges (R168) and the bins (R170). -/
def Monitor.InRange (m : Monitor) : Prop :=
  edgesValid m.edges = true ∧ (∀ k : Fin 7, m.edges[k] ≤ 65535) ∧ ∀ i : Initiator, ∀ k : Fin 8, m.bins[i][k] ≤ 65535

/-- The remaining budgets, the period and its timer (R83). -/
def Regulation.InRange (g : Regulation) : Prop :=
  (∀ i : Initiator, g.remaining[i] ≤ 131070) ∧ g.period ≤ 65535 ∧ (g.timer = none ↔ g.period = 0) ∧
  ∀ n ∈ g.timer, n.ticks < g.period ∧ (n.expiryDue = true → n.ticks + 1 = g.period)

/-- The consecutive-HIGH count and the resync wait with its timer (R97, R99). -/
def TargetPort.InRange (t : TargetPort) : Prop :=
  t.consecutiveHigh ≤ 4 ∧ 1 ≤ t.resyncWait ∧ t.resyncWait ≤ 65535 ∧ (t.resyncTimer.isSome = true ↔ t.state = .resyncing) ∧
  ∀ n ∈ t.resyncTimer, 1 ≤ n.ticks ∧ n.ticks ≤ 65535 ∧ (n.expiryDue = true → n.ticks = 1)

/-- The prescaler and the division (R121). -/
def Timebase.InRange (b : Timebase) : Prop := 1 ≤ b.prescaler ∧ b.prescaler ≤ 256 ∧ b.progress < b.prescaler

/-- Every block within its ranges. -/
structure State.InRange (s : State) : Prop where
  profiles : ∀ i : Initiator, (s.profile i).InRange
  windows : ∀ w : WindowIdx, s.windows[w].withinBounds = true
  monitor : s.monitor.InRange
  regulation : s.regulation.InRange
  target : s.target.InRange
  timebase : s.timebase.InRange
  faultLog : s.faultLog.length ≤ 16

theorem inRange_iff (s : State) : s.InRange ↔ s.ConfigBounds ∧ s.RangesHold := by
  constructor
  · rintro ⟨hp, hw, ⟨he, hk, hb⟩, ⟨hr, hper, htim, hn⟩, ⟨hch, hw1, hw2, hrt, hrn⟩, ⟨h1, h2, h3⟩, hl⟩
    exact ⟨⟨hp, hw, he, hk⟩, hr, hper, htim, hn, hch, hw1, hw2, hrt, hrn, h1, h2, h3, hl, hb⟩
  · rintro ⟨⟨hp, hw, he, hk⟩, hr, hper, htim, hn, hch, hw1, hw2, hrt, hrn, h1, h2, h3, hl, hb⟩
    exact ⟨hp, hw, ⟨he, hk, hb⟩, ⟨hr, hper, htim, hn⟩, ⟨hch, hw1, hw2, hrt, hrn⟩, ⟨h1, h2, h3⟩, hl⟩

theorem inRange_of_onlyMonitor {s t : State} (h : OnlyMonitor s t)
    (hb : s.monitor.InRange → ∀ i : Initiator, ∀ k : Fin 8, t.monitor.bins[i][k] ≤ 65535) (hs : s.InRange) : t.InRange where
  profiles i := by
    have hp : t.profile i = s.profile i := profile_of_admission (by rw [h.admission]) i
    rw [hp]
    exact hs.profiles i
  windows := h.windows ▸ hs.windows
  monitor := ⟨h.edges ▸ hs.monitor.1, h.edges ▸ hs.monitor.2.1, hb hs.monitor⟩
  regulation := h.regulation ▸ hs.regulation
  target := h.target ▸ hs.target
  timebase := h.timebase ▸ hs.timebase
  faultLog := h.faultLog ▸ hs.faultLog

theorem inRange_of_onlyClaims {s t : State} (h : OnlyClaims s t) (hs : s.InRange) : t.InRange := by
  obtain ⟨⟨tr, hq, nq, li, rfl⟩, -⟩ := h
  exact { hs with }

/-! ### Answers sent -/

/-- Is the message a RESPONSE? -/
def ToInitiator.isResponse : ToInitiator → Bool
  | .response _ _ _ => true
  | _ => false

theorem responsesTo_eq (s : State) (i : Initiator) : s.responsesTo i = (s.sentTo i).countP ToInitiator.isResponse := by
  unfold State.responsesTo
  exact List.countP_congr fun m _ => by cases m <;> rfl

theorem responsesTo_send (s : State) (i j : Initiator) (m : ToInitiator) :
    (s.send i m).responsesTo j = s.responsesTo j + if i = j ∧ m.isResponse = true then 1 else 0 := by
  rw [responsesTo_eq, responsesTo_eq, sentTo_send]
  by_cases h : i = j <;> simp [h, List.countP_append, List.countP_cons]

theorem responsesTo_of_links {s t : State} (h : t.links = s.links) (i : Initiator) : t.responsesTo i = s.responsesTo i := by
  simp only [State.responsesTo, State.sentTo, h]

/-! ### Calm events -/

/-- An event that leaves the tracker and the issue queues: no request joins an ingress queue, and of every initiator that is not `lost`
each request that leaves its queue is answered. The target goes OFFLINE only when every entry is FREE or DETACHED, and what was in its
range stays in it. -/
structure Calm (lost : Initiator → Prop) (s t : State) : Prop where
  tracker : t.tracker = s.tracker
  queueOf : ∀ c, t.target.queueOf c = s.target.queueOf c
  offline : t.target.state = .offline → s.target.state = .offline ∨ ∀ x : EntryIdx, ∀ e ∈ s.entry x, e.phase.isDetached = true
  queue : ∀ i, (t.port i).queue <:+ (s.port i).queue
  answers : ∀ i, ¬lost i → t.responsesTo i + (t.port i).queue.length = s.responsesTo i + (s.port i).queue.length
  ranges : s.InRange → t.InRange

namespace Calm

variable {lost : Initiator → Prop} {s t u : State}

theorem refl (lost : Initiator → Prop) (s : State) : Calm lost s s where
  tracker := rfl
  queueOf _ := rfl
  offline := .inl
  queue _ := List.suffix_rfl
  answers _ _ := rfl
  ranges := id

theorem trans (h : Calm lost s t) (k : Calm lost t u) : Calm lost s u where
  tracker := k.tracker.trans h.tracker
  queueOf c := (k.queueOf c).trans (h.queueOf c)
  offline hu := (k.offline hu).elim h.offline fun ht => .inr fun x e he => ht x e (by rwa [entry_of_tracker h.tracker])
  queue i := (k.queue i).trans (h.queue i)
  answers i hi := (k.answers i hi).trans (h.answers i hi)
  ranges := k.ranges ∘ h.ranges

theorem mono {lost' : Initiator → Prop} (h : Calm lost s t) (hl : ∀ i, lost i → lost' i) : Calm lost' s t :=
  { h with answers := fun i hi => h.answers i fun hn => hi (hl i hn) }

/-- The same event, once the answers of every initiator are accounted for. -/
theorem with_answers {lost' : Initiator → Prop} (h : Calm lost' s t)
    (ha : ∀ i, ¬lost i → t.responsesTo i + (t.port i).queue.length = s.responsesTo i + (s.port i).queue.length) : Calm lost s t :=
  { h with answers := ha }

theorem foldl {α : Type} (f : State → α → State) (hf : ∀ s a, Calm lost s (f s a)) (l : List α) (s : State) :
    Calm lost s (l.foldl f s) := by
  induction l generalizing s with
  | nil => exact refl lost s
  | cons a l ih => exact (hf s a).trans (ih _)

end Calm

section
variable (lost : Initiator → Prop) (s : State)

theorem raise_calm (c : Cause) : Calm lost s (s.raise c) := { Calm.refl lost s with ranges := fun h => { h with } }

theorem setHead_calm (i : Initiator) (h : HeadStatus) : Calm lost s (s.setHead i h) :=
  { Calm.refl lost s with ranges := fun h => { h with } }

theorem sendTarget_calm (m : ToTarget) : Calm lost s (s.sendTarget m) :=
  { Calm.refl lost s with ranges := fun h => { h with } }

theorem management_calm (m : Management) : Calm lost s { s with management := m } :=
  { Calm.refl lost s with ranges := fun h => { h with } }

theorem sampleOwed_calm (b : Bool) : Calm lost s { s with sampleOwed := b } :=
  { Calm.refl lost s with ranges := fun h => { h with } }

theorem choices_calm (n : Nat) : Calm lost s { s with choices := n } :=
  { Calm.refl lost s with ranges := fun h => { h with } }

theorem pending_calm (l : List Instr) : Calm lost s { s with pending := l } :=
  { Calm.refl lost s with ranges := fun h => { h with } }

theorem interrupts_calm (f : Interrupts) : Calm lost s { s with interrupts := f } :=
  { Calm.refl lost s with ranges := fun h => { h with } }

theorem logFault_calm (r : FaultReport) : Calm lost s (s.logFault r) := by
  refine ⟨logFault_tracker s r, ?_, ?_, ?_, ?_, fun h => ?_⟩
  · intro c; rw [logFault_target]
  · rw [logFault_target]; exact .inl
  · intro i; rw [port_of_ports (logFault_ports s r)]
  · intro i _; rw [port_of_ports (logFault_ports s r), responsesTo_of_links (logFault_links s r)]
  · obtain ⟨l, f, e⟩ := logFault_only s r
    have hl := logFault_length s r h.faultLog
    rw [e] at hl ⊢
    exact { h with faultLog := hl }

theorem calm_of_onlyMonitor {t : State} (h : OnlyMonitor s t)
    (hb : s.monitor.InRange → ∀ i : Initiator, ∀ k : Fin 8, t.monitor.bins[i][k] ≤ 65535) : Calm lost s t where
  tracker := h.tracker
  queueOf c := by rw [h.target]
  offline := by rw [h.target]; exact .inl
  queue i := by rw [port_of_ports h.ports]
  answers i _ := by rw [port_of_ports h.ports, responsesTo_of_links h.links]
  ranges := inRange_of_onlyMonitor h hb

theorem binLatency_bins_le (i : Initiator) (n : Tick) (h : ∀ i : Initiator, ∀ k : Fin 8, s.monitor.bins[i][k] ≤ 65535) (j : Initiator)
    (k : Fin 8) : (s.binLatency i n).monitor.bins[j][k] ≤ 65535 := by
  unfold State.binLatency
  split
  · simp only [updateAt_get]
    split
    · rw [ofFn_get]
      split
      · exact Nat.min_le_left _ _
      · exact h j k
    · exact h j k
  · exact h j k

/-- A report, with or without a latency, is calm: bins stop at 65535 (R170). -/
theorem report_calm (rs : List Report) (l : Option (Initiator × Tick)) : Calm lost s (s.report rs l) := by
  refine calm_of_onlyMonitor lost s (report_onlyMonitor s rs l) fun hm => ?_
  refine inAnyOrder_induction s _ (fun t => ∀ i : Initiator, ∀ k : Fin 8, t.monitor.bins[i][k] ≤ 65535) (fun _ => hm.2.2) fun k t ht => ?_
  cases k with
  | some c =>
    have hbins : (rs.foldl (fun t r => t.offer c r) t).monitor.bins = t.monitor.bins := by
      clear hm ht
      induction rs generalizing t with
      | nil => rfl
      | cons r rs ih => exact (ih _).trans (offer_bins t c r)
    simpa only [hbins] using ht
  | none =>
    cases l with
    | none => exact ht
    | some p => exact binLatency_bins_le t p.1 p.2 ht

theorem sample_bins (c : CounterIdx) : (s.sample c).monitor.bins = s.monitor.bins := by
  unfold State.sample
  simp only
  repeat' split
  all_goals simp only [addTo_bins, State.modCounter_bins]

/-- The samples of a tick are calm. -/
theorem sampleAll_calm : Calm lost s s.sampleAll := by
  refine calm_of_onlyMonitor lost s (sampleAll_onlyMonitor s) fun hm => ?_
  refine inAnyOrder_induction s _ (fun t => ∀ i : Initiator, ∀ k : Fin 8, t.monitor.bins[i][k] ≤ 65535) (fun _ => hm.2.2) fun k t ht => ?_
  cases k with
  | some c => simpa only [sample_bins] using ht
  | none => exact ht

/-- A change of a port that leaves its queue is calm. -/
theorem modPort_calm (i : Initiator) (f : Port → Port) (hf : (f (s.port i)).queue = (s.port i).queue) :
    Calm lost s (s.modPort i f) := by
  have hq : ∀ j, ((s.modPort i f).port j).queue = (s.port j).queue := fun j => by
    rw [port_modPort]
    split
    · rename_i hij; subst hij; exact hf
    · rfl
  exact { Calm.refl lost s with
    queue := fun j => by rw [hq j]
    answers := fun j _ => by rw [hq j, responsesTo_of_links (State.modPort_links s i f)]
    ranges := fun h => { h with } }

/-- A message that answers nothing is calm. -/
theorem send_calm (i : Initiator) (m : ToInitiator) (hm : m.isResponse = false ∨ lost i) : Calm lost s (s.send i m) :=
  { Calm.refl lost s with
    answers := fun j hj => by
      rw [responsesTo_send, if_neg, Nat.add_zero]
      · rfl
      · rintro ⟨rfl, hr⟩
        exact hm.elim (by simp [hr]) hj
    ranges := fun h => { h with } }

theorem returnCredit_calm (i : Initiator) : Calm lost s (s.returnCredit i) :=
  (modPort_calm lost s i (fun p => { p with granted := p.granted + 1 }) rfl).trans (send_calm lost _ i _ (.inl rfl))

/-- A request that leaves its queue and is answered is calm. -/
theorem answerHead_calm (i : Initiator) (r : Request) (rest : List Request) (st : Status) (hq : (s.port i).queue = r :: rest) :
    Calm lost s ((s.modPort i fun p => { p with queue := rest }).send i (.response r.tag st [])) := by
  have hport : ∀ j, (((s.modPort i fun p => { p with queue := rest }).send i (.response r.tag st [])).port j).queue =
      if i = j then rest else (s.port j).queue := fun j => by
    rw [port_of_ports (State.send_ports _ _ _), port_modPort]
    split <;> rfl
  refine { Calm.refl lost s with queue := fun j => ?_, answers := fun j _ => ?_, ranges := fun h => { h with } }
  · rw [hport]
    split
    · rename_i hij; subst hij; rw [hq]; exact List.suffix_cons r rest
    · exact List.suffix_rfl
  · rw [hport, responsesTo_send, responsesTo_of_links (State.modPort_links _ _ _)]
    by_cases hij : i = j
    · subst hij
      simp only [if_true, hq, List.length_cons, ToInitiator.isResponse, and_self]
      omega
    · simp [hij]

end

/-! ### The check of heads is calm (R53, R57, R60, R61) -/

section
variable (lost : Initiator → Prop)

theorem checkQueue_calm (i : Initiator) (q : List Request) :
    ∀ (prev : HeadStatus) (s : State), (s.port i).queue = q → Calm lost s (State.checkQueue i prev q s) := by
  induction q with
  | nil => exact fun prev s _ => setHead_calm lost s i _
  | cons r rest ih =>
    intro prev s hq
    unfold State.checkQueue
    split
    · rename_i why _
      have hrefuse : Calm lost s (s.refuseHead i r rest why) :=
        ((answerHead_calm lost s i r rest why.status hq).trans (returnCredit_calm lost _ i)).trans (report_calm lost _ _ none)
      refine hrefuse.trans (ih _ _ ?_)
      unfold State.refuseHead
      rw [port_of_ports (report_onlyMonitor _ _ none).ports, port_returnCredit, if_pos rfl, port_of_ports (State.send_ports _ _ _),
        port_modPort, if_pos rfl]
    · simp only
      split
      · exact (setHead_calm lost s i _).trans (raise_calm lost _ _)
      · exact setHead_calm lost s i _
    · exact setHead_calm lost s i _

theorem headArrives_calm (s : State) (i : Initiator) : Calm lost s (s.headArrives i) := checkQueue_calm lost i _ _ s rfl

theorem recheckOne_calm (s : State) (i : Initiator) : Calm lost s (s.recheckOne i) := by
  unfold State.recheckOne
  split
  · exact Calm.refl lost s
  · exact checkQueue_calm lost i _ _ s rfl

theorem recheck_calm (s : State) : Calm lost s s.recheck := Calm.foldl _ (recheckOne_calm lost) _ s

theorem changeTarget_suspect_calm (s : State) (h : s.target.state = .online) : Calm lost s (s.changeTarget .suspect) :=
  { Calm.refl lost s with
    offline := fun hs => by simp [State.changeTarget] at hs
    queueOf := fun c => by cases c <;> rfl
    ranges := fun hr => { hr with
      target := by
        obtain ⟨hch, hw1, hw2, hrt, hrn⟩ := hr.target
        exact ⟨hch, hw1, hw2, by simpa [State.changeTarget, h] using hrt, hrn⟩ } }

theorem suspectIfReached_calm (s : State) : Calm lost s s.suspectIfReached := by
  unfold State.suspectIfReached
  split
  · rename_i h; exact changeTarget_suspect_calm lost s h.1
  · exact Calm.refl lost s

/-- The notices after a claim are calm (R5, R116). -/
theorem notices_calm (before s : State) : Calm lost s (State.notices before s) := by
  obtain ⟨t, ht, h⟩ := notices_cases before s
  have hst : Calm lost s t := by
    rcases ht with rfl | rfl
    · exact Calm.refl lost _
    · exact suspectIfReached_calm lost s
  rcases h with h | h <;> rw [h]
  · exact hst.trans (recheck_calm lost t)
  · exact hst

end

/-! ### Moves -/

/-- One move of the part: a calm event, or one that changes the tracker. Requests of the initiators that are `lost` may go unanswered or
be new. -/
inductive Move (lost : Initiator → Prop) (s : State) : State → Prop
  /-- A calm event. -/
  | calm {t : State} (h : Calm lost s t) : Move lost s t
  /-- A request joins its ingress queue (R41 step 8). -/
  | append {i : Initiator} {r : Request} (hl : lost i) (hd : s.duplicateTag i r.tag = false) (hw : requestMalformed r = false) :
      Move lost s (s.modPort i fun p => { p with queue := p.queue ++ [r] })
  /-- A head becomes an entry (R64). -/
  | admission {i : Initiator} {r : Request} {rest : List Request} {w : WindowIdx} {x : EntryIdx} (hq : (s.port i).queue = r :: rest)
      (hx : s.entry x = none) (ho : s.target.state = .online) :
      Move lost s ((s.allocate x i r w).modPort i fun p => { p with queue := rest })
  /-- The issue arbiter's winner becomes ISSUED (R12, R99). -/
  | issue {c : Cls} {x : EntryIdx} {e : Entry} (hc : s.target.canIssue = true) (hw : s.target.winner = some (c, x))
      (hx : s.entry x = some e) :
      Move lost s (State.setEntry { s with target := s.target.afterIssue c } x (some { e with phase := .issued, writeData := [] }))
  /-- A live entry is answered and freed (R11, R9). -/
  | answerFree {x : EntryIdx} {e : Entry} {st : Status} {d : List DataBeat} (hx : s.entry x = some e) (hl : e.phase.live = true) :
      Move lost s ((s.answer e st d).freeEntry x)
  /-- An ISSUED entry is answered and detached (R11, R15). -/
  | answerDetach {x : EntryIdx} {e : Entry} {st : Status} {c : DetachCause} (hx : s.entry x = some e) (hi : e.phase = .issued) :
      Move lost s ((s.answer e st).detachEntry x e c)
  /-- A DETACHED entry is freed, or a live one of a lost initiator without an answer (R20, R23). -/
  | free {x : EntryIdx} {e : Entry} (hx : s.entry x = some e) (hl : e.phase.isDetached = true ∨ lost e.initiator) :
      Move lost s (s.freeEntry x)
  /-- An ISSUED entry of a lost initiator is detached without an answer (R20). -/
  | detach {x : EntryIdx} {e : Entry} {c : DetachCause} (hx : s.entry x = some e) (hi : e.phase = .issued) (hl : lost e.initiator) :
      Move lost s (s.detachEntry x e c)
  /-- A reset of the whole part's traffic (R193, R195). -/
  | clear {t : State} (hl : ∀ i, lost i) (ht : ∀ x, t.entry x = none) (hq : ∀ c, t.target.queueOf c = [])
      (hp : ∀ i, (t.port i).queue = []) (hr : s.InRange → t.InRange) : Move lost s t

/-- Moves, one after another. -/
abbrev Moves (lost : Initiator → Prop) : State → State → Prop := Relation.ReflTransGen (Move lost)

theorem Move.mono {lost lost' : Initiator → Prop} (hl : ∀ i, lost i → lost' i) {s t : State} (h : Move lost s t) : Move lost' s t := by
  cases h with
  | calm h => exact .calm (h.mono hl)
  | append hi hd hw => exact .append (hl _ hi) hd hw
  | admission hq hx ho => exact .admission hq hx ho
  | issue hc hw hx => exact .issue hc hw hx
  | answerFree hx hp => exact .answerFree hx hp
  | answerDetach hx hi => exact .answerDetach hx hi
  | free hx hf => exact .free hx (hf.imp id (hl _))
  | detach hx hi hf => exact .detach hx hi (hl _ hf)
  | clear hi ht hq hp hr => exact .clear (fun i => hl i (hi i)) ht hq hp hr

theorem Moves.mono {lost lost' : Initiator → Prop} (hl : ∀ i, lost i → lost' i) {s t : State} (h : Moves lost s t) : Moves lost' s t :=
  Relation.ReflTransGen.mono (fun _ _ hm => hm.mono hl) _ _ h

/-- A calm event after moves. -/
theorem Moves.calm {lost : Initiator → Prop} {s t u : State} (h : Moves lost s t) (k : Calm lost t u) : Moves lost s u :=
  h.tail (.calm k)

theorem Moves.trans {lost : Initiator → Prop} {s t u : State} (h : Moves lost s t) (k : Moves lost t u) : Moves lost s u :=
  Relation.ReflTransGen.trans h k

theorem Calm.moves {lost : Initiator → Prop} {s t : State} (h : Calm lost s t) : Moves lost s t := .single (.calm h)

/-- What every move keeps, every sequence of moves keeps. -/
theorem Moves.keeps {lost : Initiator → Prop} {P : State → Prop} (hP : ∀ s t, Move lost s t → P s → P t) {s t : State}
    (h : Moves lost s t) (hs : P s) : P t := by
  induction h with
  | refl => exact hs
  | tail _ hm ih => exact hP _ _ hm ih

end Sys2Proof.Machine
end

section
/-!
What every move keeps of the tracker: its laws (R1, R2, R3), and with them a quiet OFFLINE (R21).
-/

namespace Sys2Proof.Machine

/-! ### The tracker's laws -/

theorem trackerLaws_congr {s t : State} (htr : t.tracker = s.tracker) (hq : ∀ c, t.target.queueOf c = s.target.queueOf c)
    (h : s.TrackerLaws) : t.TrackerLaws := by
  have he : t.entry = s.entry := funext (entry_of_tracker htr)
  obtain ⟨hshape, hmirror, hready⟩ := h
  refine ⟨?_, ?_, (queuesHoldReady_iff t).mpr fun c => ?_⟩
  · simpa only [State.EntryShape, he] using hshape
  · simpa only [State.ListsMirror, he] using hmirror
  · simpa only [hq, he] using (queuesHoldReady_iff s).mp hready c

@[simp] theorem answer_tracker (s : State) (e : Entry) (st : Status) (d : List DataBeat) : (s.answer e st d).tracker = s.tracker := by
  unfold State.answer
  split <;> rfl

@[simp] theorem answer_target (s : State) (e : Entry) (st : Status) (d : List DataBeat) : (s.answer e st d).target = s.target := by
  unfold State.answer
  split <;> rfl

@[simp] theorem answer_ports (s : State) (e : Entry) (st : Status) (d : List DataBeat) : (s.answer e st d).ports = s.ports := by
  unfold State.answer
  split <;> rfl

theorem entry_answer (s : State) (e : Entry) (st : Status) (d : List DataBeat) (x : EntryIdx) : (s.answer e st d).entry x = s.entry x :=
  entry_of_tracker (answer_tracker s e st d) x

theorem trackerLaws_answer {s : State} (h : s.TrackerLaws) (e : Entry) (st : Status) (d : List DataBeat) : (s.answer e st d).TrackerLaws :=
  trackerLaws_congr (answer_tracker s e st d) (fun c => by rw [answer_target]) h

/-- Every move keeps the tracker's laws. -/
theorem Move.trackerLaws {lost : Initiator → Prop} {s t : State} (h : Move lost s t) (hs : s.TrackerLaws) : t.TrackerLaws := by
  cases h with
  | calm h => exact trackerLaws_congr h.tracker h.queueOf hs
  | append => exact trackerLaws_congr rfl (fun _ => rfl) hs
  | admission _ hx _ => exact trackerLaws_congr rfl (fun _ => rfl) (trackerLaws_allocate _ _ _ hs hx)
  | issue _ hw hx => exact trackerLaws_issue hs hw hx
  | @answerFree x e st d hx _ => exact trackerLaws_freeEntry (trackerLaws_answer hs e st d) ((entry_answer s e st d x).trans hx)
  | @answerDetach x e st c hx hi => exact trackerLaws_detachEntry (trackerLaws_answer hs e st []) ((entry_answer s e st [] x).trans hx) hi c
  | free hx _ => exact trackerLaws_freeEntry hs hx
  | detach hx hi _ => exact trackerLaws_detachEntry hs hx hi _
  | clear _ ht hq _ _ =>
    refine ⟨fun x e he => ?_, ⟨fun x e he => ?_, fun x y => ?_⟩, (queuesHoldReady_iff _).mpr fun c => ?_⟩
    · simp [ht] at he
    · simp [ht] at he
    · simp [ht]
    · simp [ht, hq]

/-! ### OFFLINE is quiet (R21) -/

/-- In OFFLINE every entry is FREE or DETACHED. -/
def State.OfflineDetached (s : State) : Prop :=
  s.target.state = .offline → ∀ x : EntryIdx, ∀ e ∈ s.entry x, e.phase.isDetached = true

/-- Where the queues hold the READY entries, OFFLINE is quiet as soon as no entry is live. -/
theorem offlineIsQuiet_iff {s : State} (h : s.TrackerLaws) : s.OfflineIsQuiet ↔ s.OfflineDetached := by
  constructor
  · exact fun hq ho => (hq ho).2.2
  · intro hd ho
    have hempty : ∀ c, s.target.queueOf c = [] := fun c => by
      rw [List.eq_nil_iff_forall_not_mem]
      intro x hx
      obtain ⟨e, he, hr, -⟩ := (((queuesHoldReady_iff s).mp h.2.2 c).2 x).mp hx
      simpa [hr, Phase.isDetached] using hd ho x e he
    exact ⟨hempty .high, hempty .normal, hd ho⟩

/-- The same transaction, field by field. -/
theorem carriedBy_iff {e f : Entry} : e.carriedBy f = true ↔
    f.initiator = e.initiator ∧ f.tag = e.tag ∧ f.op = e.op ∧ f.requestAddress = e.requestAddress ∧ f.targetAddress = e.targetAddress ∧
      f.beats = e.beats ∧ f.window = e.window ∧ f.cls = e.cls ∧ f.admissionTick = e.admissionTick ∧ f.expiryTick = e.expiryTick ∧
      f.writeData = e.writeData := by
  cases f
  simp [Entry.carriedBy]

theorem carriedBy_refl (e : Entry) : e.carriedBy e = true := decide_eq_true rfl

theorem carriedBy_trans {e f g : Entry} (h : e.carriedBy f = true) (k : f.carriedBy g = true) : e.carriedBy g = true := by
  rw [carriedBy_iff] at *
  simp_all

/-- What a freeing makes of another entry, whatever the laws: its lists, and its phase from WAITING to READY. -/
theorem unlink_some {x y : EntryIdx} {e g : Entry} {o : Option Entry} (h : unlink x e y o = some g) :
    y ≠ x ∧ ∃ f, o = some f ∧ f.carriedBy g = true ∧ (g.phase = f.phase ∨ f.phase = .waiting ∧ g.phase = .ready) := by
  unfold unlink at h
  split at h
  · simp at h
  · rename_i hne
    obtain ⟨f, rfl, hg⟩ := Option.map_eq_some_iff.mp h
    refine ⟨hne, f, rfl, ?_⟩
    have hmid : f.carriedBy (if y ∈ e.successors then f.dropPredecessor x else f) = true ∧
        ((if y ∈ e.successors then f.dropPredecessor x else f).phase = f.phase ∨
          f.phase = .waiting ∧ (if y ∈ e.successors then f.dropPredecessor x else f).phase = .ready) := by
      split
      · refine ⟨by simp [carriedBy_iff, Entry.dropPredecessor], ?_⟩
        simp only [Entry.dropPredecessor]
        split
        · rename_i hw; exact .inr ⟨hw.1, rfl⟩
        · exact .inl rfl
      · exact ⟨carriedBy_refl f, .inl rfl⟩
    subst hg
    simp only
    split
    · exact ⟨carriedBy_trans hmid.1 (by simp [carriedBy_iff, Entry.dropSuccessor]), hmid.2⟩
    · exact hmid

/-- An entry that a freeing leaves was held before, with the same transaction, and is live if it was. -/
theorem freeEntry_some {s : State} {x y : EntryIdx} {g : Entry} (h : (s.freeEntry x).entry y = some g) :
    ∃ f, s.entry y = some f ∧ f.carriedBy g = true ∧ (g.phase = f.phase ∨ f.phase = .waiting ∧ g.phase = .ready) := by
  cases hx : s.entry x with
  | none =>
    rw [freeEntry_of_free s x hx] at h
    exact ⟨g, h, carriedBy_refl g, .inl rfl⟩
  | some e =>
    rw [entry_freeEntry s x y e hx] at h
    exact (unlink_some h).2

/-- Every move keeps OFFLINE quiet. -/
theorem Move.offlineDetached {lost : Initiator → Prop} {s t : State} (h : Move lost s t) (hs : s.OfflineDetached) : t.OfflineDetached := by
  have hfree : ∀ {u : State} {x : EntryIdx}, u.OfflineDetached → (u.freeEntry x).OfflineDetached := fun {u x} hu ho y g hg => by
    rw [(freeEntry_onlyClaims u x).targetState] at ho
    obtain ⟨f, hf, -, hp⟩ := freeEntry_some hg
    have hd := hu ho y f hf
    rcases hp with hp | ⟨hw, -⟩
    · rwa [hp]
    · simp [hw, Phase.isDetached] at hd
  have hset : ∀ {u : State} {x : EntryIdx} {e : Entry} {c : DetachCause}, u.OfflineDetached → (u.detachEntry x e c).OfflineDetached :=
    fun {u x e c} hu ho y g hg => by
      rw [Option.mem_def, State.detachEntry, entry_setEntry] at hg
      split at hg
      · cases hg; rfl
      · exact hu ho y g hg
  have hans : ∀ e st d, (s.answer e st d).OfflineDetached := fun e st d ho y g hg => by
    rw [answer_target] at ho
    exact hs ho y g (by rwa [entry_answer] at hg)
  cases h with
  | calm h =>
    intro ho x e he
    rw [entry_of_tracker h.tracker] at he
    exact (h.offline ho).elim (fun hso => hs hso x e he) fun hd => hd x e he
  | append => exact hs
  | @admission i r rest w x hq hx ho =>
    intro hoff
    have hstate : (s.allocate x i r w).target.state = s.target.state := by
      unfold State.allocate
      simp only
      split
      · rw [(enqueue_onlyClaims _ _).targetState, State.mapEntries_target]
      · rw [State.mapEntries_target]
    rw [State.modPort_target, hstate, ho] at hoff
    cases hoff
  | @issue c x e hc hw hx =>
    intro ho
    have hoff : s.target.state = .offline := by cases c <;> exact ho
    simp [TargetPort.canIssue, hoff] at hc
  | answerFree _ _ => exact hfree (hans _ _ _)
  | answerDetach _ _ => exact hset (hans _ _ _)
  | free _ _ => exact hfree hs
  | detach _ _ _ => exact hset hs
  | clear _ ht _ _ _ => intro _ x e he; simp [ht] at he

end Sys2Proof.Machine
end

section
/-!
What every move keeps: the ranges with well-formed requests and entries, and the answers.
-/

namespace Sys2Proof.Machine

/-! ### Ranges, well-formed requests and entries -/

/-- The bounds that O58 names. -/
def State.Bounded (s : State) : Prop := s.InRange ∧ s.QueuedWellFormed ∧ s.EntriesInRange

theorem allocate_onlyClaims (s : State) (x : EntryIdx) (i : Initiator) (r : Request) (w : WindowIdx) :
    OnlyClaims s (s.allocate x i r w) := by
  unfold State.allocate
  simp only
  split
  · exact (mapEntries_onlyClaims s _).trans (enqueue_onlyClaims _ x)
  · exact mapEntries_onlyClaims s _

theorem requestMalformed_beats {r : Request} (h : requestMalformed r = false) : 1 ≤ r.beats ∧ r.beats ≤ 8 := by
  simp only [requestMalformed, Bool.or_eq_false_iff, beq_eq_false_iff_ne, decide_eq_false_iff_not] at h
  omega

theorem queuedWellFormed_of_ports {s t : State} (h : t.ports = s.ports) (hs : s.QueuedWellFormed) : t.QueuedWellFormed := by
  intro i
  rw [port_of_ports h]
  exact hs i

/-- A claim's event keeps the bounds when every entry it leaves carries the beats of one it found. -/
theorem bounded_of_onlyClaims {s t : State} (h : OnlyClaims s t)
    (he : ∀ y g, t.entry y = some g → ∃ z f, s.entry z = some f ∧ g.beats = f.beats) (hs : s.Bounded) : t.Bounded := by
  obtain ⟨hr, hq, hb⟩ := hs
  refine ⟨inRange_of_onlyClaims h hr, queuedWellFormed_of_ports h.ports hq, fun y g hg => ?_⟩
  obtain ⟨z, f, hf, e⟩ := he y g hg
  rw [e]
  exact hb z f hf

theorem bounded_freeEntry {s : State} (x : EntryIdx) (hs : s.Bounded) : (s.freeEntry x).Bounded :=
  bounded_of_onlyClaims (freeEntry_onlyClaims s x) (fun y g hg => by
    obtain ⟨f, hf, hc, -⟩ := freeEntry_some hg
    exact ⟨y, f, hf, (carriedBy_iff.mp hc).2.2.2.2.2.1⟩) hs

theorem bounded_detachEntry {s : State} {x : EntryIdx} {e : Entry} (hx : s.entry x = some e) (c : DetachCause) (hs : s.Bounded) :
    (s.detachEntry x e c).Bounded :=
  bounded_of_onlyClaims (detachEntry_onlyClaims s x e c) (fun y g hg => by
    rw [State.detachEntry, entry_setEntry] at hg
    split at hg
    · cases hg; exact ⟨x, e, hx, rfl⟩
    · exact ⟨y, g, hg, rfl⟩) hs

theorem bounded_answer {s : State} (e : Entry) (st : Status) (d : List DataBeat) (hs : s.Bounded) : (s.answer e st d).Bounded :=
  bounded_of_onlyClaims (answer_onlyClaims s e st d) (fun y g hg => ⟨y, g, by rwa [entry_answer] at hg, rfl⟩) hs

/-- A change of one queue to requests that are well-formed keeps the bounds. -/
theorem bounded_modPort {s : State} (i : Initiator) (f : Port → Port)
    (hf : ∀ q ∈ (f (s.port i)).queue, requestMalformed q = false) (hs : s.Bounded) : (s.modPort i f).Bounded := by
  obtain ⟨hr, hq, hb⟩ := hs
  refine ⟨{ hr with }, fun j q hj => ?_, hb⟩
  rw [port_modPort] at hj
  split at hj
  · rename_i hij; subst hij; exact hf q hj
  · exact hq j q hj

theorem TargetPort.inRange_afterIssue {t : TargetPort} (h : t.InRange) (c : Cls) : (t.afterIssue c).InRange := by
  obtain ⟨hch, hw1, hw2, hrt, hrn⟩ := h
  cases c
  · exact ⟨Nat.zero_le _, hw1, hw2, hrt, hrn⟩
  · exact ⟨Nat.min_le_left _ _, hw1, hw2, hrt, hrn⟩

/-- Every move keeps the bounds. -/
theorem Move.bounded {lost : Initiator → Prop} {s t : State} (h : Move lost s t) (hs : s.Bounded) : t.Bounded := by
  obtain ⟨hr, hq, hb⟩ := id hs
  cases h with
  | calm h =>
    refine ⟨h.ranges hr, fun i q hiq => hq i q ((h.queue i).subset hiq), fun x e he => hb x e ?_⟩
    rwa [entry_of_tracker h.tracker] at he
  | @append i r _ _ hw =>
    refine bounded_modPort i _ (fun q hm => ?_) hs
    rcases List.mem_append.mp hm with hm | hm
    · exact hq i q hm
    · rw [List.mem_singleton.mp hm]; exact hw
  | @admission i r rest w x hqueue hx _ =>
    have hhead : requestMalformed r = false := hq i r (by simp [hqueue])
    have halloc := allocate_onlyClaims s x i r w
    refine bounded_modPort i _ (fun q hm => hq i q (by rw [hqueue]; exact List.mem_cons_of_mem r hm)) ⟨inRange_of_onlyClaims halloc hr,
      queuedWellFormed_of_ports halloc.ports hq, fun y g hg => ?_⟩
    rw [Option.mem_def, entry_allocate] at hg
    split at hg
    · cases hg; exact requestMalformed_beats hhead
    · split at hg
      · obtain ⟨f, hf, rfl⟩ := Option.map_eq_some_iff.mp hg
        exact hb y f hf
      · exact hb y g hg
  | @issue c x e _ _ hx =>
    refine ⟨{ hr with target := TargetPort.inRange_afterIssue hr.target c }, hq, fun y g hg => ?_⟩
    rw [Option.mem_def, entry_setEntry] at hg
    split at hg
    · cases hg; exact hb x e hx
    · exact hb y g hg
  | answerFree _ _ => exact bounded_freeEntry _ (bounded_answer _ _ _ hs)
  | answerDetach hx _ => exact bounded_detachEntry ((entry_answer ..).trans hx) _ (bounded_answer _ _ _ hs)
  | free _ _ => exact bounded_freeEntry _ hs
  | detach hx _ _ => exact bounded_detachEntry hx _ hs
  | clear _ ht _ hp hclear =>
    refine ⟨hclear hr, fun i q hiq => ?_, fun x e he => ?_⟩
    · simp [hp] at hiq
    · simp [ht] at he

/-! ### Answers sent and answers owed -/

/-- A count of entries after a change of one of them. -/
theorem countEntries_change {s t : State} (x : EntryIdx) (p : Entry → Bool)
    (h : ∀ y, y ≠ x → (t.entry y).any p = (s.entry y).any p) :
    t.countEntries p + ((s.entry x).any p).toNat = s.countEntries p + ((t.entry x).any p).toNat := by
  have hperm := List.perm_cons_erase (mem_entryIndices x)
  have hrest : (entryIndices.erase x).countP (fun y => (t.entry y).any p) = (entryIndices.erase x).countP (fun y => (s.entry y).any p) :=
    List.countP_congr fun y hy => by
      have hne : y ≠ x := fun hyx => (nodup_of_ascending pairwise_entryIndices).not_mem_erase (hyx ▸ hy)
      rw [h y hne]
  unfold State.countEntries
  rw [hperm.countP_eq, hperm.countP_eq, List.countP_cons, List.countP_cons, hrest]
  cases (s.entry x).any p <;> cases (t.entry x).any p <;> simp

/-- The entry is live and `i`'s: it counts as outstanding (R4). -/
def Entry.owes (i : Initiator) (e : Entry) : Bool := e.initiator == i && e.phase.live

theorem outstanding_eq (s : State) (i : Initiator) : s.outstanding i = s.countEntries (Entry.owes i) := rfl

/-- Freeing changes what is outstanding by the freed entry alone. -/
theorem outstanding_freeEntry {s : State} {x : EntryIdx} {e : Entry} (hx : s.entry x = some e) (i : Initiator) :
    (s.freeEntry x).outstanding i + (e.owes i).toNat = s.outstanding i := by
  have h := countEntries_change (s := s) (t := s.freeEntry x) x (Entry.owes i) fun y hy => by
    rw [entry_freeEntry s x y e hx]
    cases hu : unlink x e y (s.entry y) with
    | none =>
      cases hf : s.entry y with
      | none => rfl
      | some f => simp [unlink, hy, hf] at hu
    | some g =>
      obtain ⟨-, f, hf, hc, hp⟩ := unlink_some hu
      have hlive : g.phase.live = f.phase.live := by
        rcases hp with hp | ⟨hw, hr⟩
        · rw [hp]
        · rw [hw, hr]; rfl
      simp [hf, Entry.owes, hlive, (carriedBy_iff.mp hc).1]
  rw [entry_freeEntry_self, hx] at h
  simpa [outstanding_eq] using h

/-- Detaching changes what is outstanding by the detached entry alone. -/
theorem outstanding_detachEntry {s : State} {x : EntryIdx} {e : Entry} (hx : s.entry x = some e) (c : DetachCause) (i : Initiator) :
    (s.detachEntry x e c).outstanding i + (e.owes i).toNat = s.outstanding i := by
  have h := countEntries_change (s := s) (t := s.detachEntry x e c) x (Entry.owes i) fun y hy => by
    rw [State.detachEntry, entry_setEntry, if_neg (Ne.symm hy)]
  rw [State.detachEntry, entry_setEntry, if_pos rfl, hx] at h
  simpa [outstanding_eq, Entry.owes, Entry.detach, Phase.live, State.detachEntry] using h

/-- A live entry binds a tag (R1), so its answer is one RESPONSE to its initiator. -/
theorem responsesTo_answer {s : State} (h : s.EntryShape) {x : EntryIdx} {e : Entry} (hx : s.entry x = some e)
    (hl : e.phase.live = true) (st : Status) (d : List DataBeat) (i : Initiator) :
    (s.answer e st d).responsesTo i = s.responsesTo i + (e.owes i).toNat := by
  obtain ⟨t, ht⟩ := Option.isSome_iff_exists.mp ((h x e hx).1.mp hl)
  unfold State.answer
  simp only [ht]
  rw [responsesTo_send]
  by_cases hi : e.initiator = i <;> simp [hi, ToInitiator.isResponse, Entry.owes, hl]

theorem owed_eq (s : State) (i : Initiator) : s.owed i = (s.port i).queue.length + s.outstanding i := rfl

theorem outstanding_answer (s : State) (e : Entry) (st : Status) (d : List DataBeat) (i : Initiator) :
    (s.answer e st d).outstanding i = s.outstanding i := outstanding_of_tracker (answer_tracker ..) i

theorem answers_freeEntry {s : State} {x : EntryIdx} {e : Entry} (hx : s.entry x = some e) (i : Initiator) :
    (s.freeEntry x).responsesTo i + (s.freeEntry x).owed i + (e.owes i).toNat = s.responsesTo i + s.owed i := by
  have ho := outstanding_freeEntry hx i
  rw [owed_eq, owed_eq, responsesTo_of_links (freeEntry_links s x), port_of_ports (freeEntry_onlyClaims s x).ports]
  omega

theorem answers_detachEntry {s : State} {x : EntryIdx} {e : Entry} (hx : s.entry x = some e) (c : DetachCause) (i : Initiator) :
    (s.detachEntry x e c).responsesTo i + (s.detachEntry x e c).owed i + (e.owes i).toNat = s.responsesTo i + s.owed i := by
  have ho := outstanding_detachEntry hx c i
  have hlinks : (s.detachEntry x e c).links = s.links := State.setEntry_links s x _
  rw [owed_eq, owed_eq, responsesTo_of_links hlinks, port_of_ports (detachEntry_onlyClaims s x e c).ports]
  omega

theorem answers_answer {s : State} (h : s.EntryShape) {x : EntryIdx} {e : Entry} (hx : s.entry x = some e) (hl : e.phase.live = true)
    (st : Status) (d : List DataBeat) (i : Initiator) :
    (s.answer e st d).responsesTo i + (s.answer e st d).owed i = s.responsesTo i + s.owed i + (e.owes i).toNat := by
  rw [owed_eq, owed_eq, responsesTo_answer h hx hl, outstanding_answer, port_of_ports (answer_ports ..)]
  omega

theorem allocate_links (s : State) (x : EntryIdx) (i : Initiator) (r : Request) (w : WindowIdx) : (s.allocate x i r w).links = s.links := by
  unfold State.allocate
  simp only
  split
  · rw [enqueue_links, State.mapEntries_links]
  · rw [State.mapEntries_links]

/-- Allocation raises what is outstanding of the initiator by 1. -/
theorem outstanding_allocate {s : State} {x : EntryIdx} (hx : s.entry x = none) (j : Initiator) (r : Request) (w : WindowIdx)
    (i : Initiator) : (s.allocate x j r w).outstanding i = s.outstanding i + if j = i then 1 else 0 := by
  have hcount := countEntries_change (s := s) (t := s.allocate x j r w) x (Entry.owes i) fun y hy => by
    rw [entry_allocate, if_neg hy]
    split
    · cases s.entry y <;> rfl
    · rfl
  have hlive : (newEntry s j r w (s.predecessorsOf r w)).phase.live = true := by
    by_cases hp : s.predecessorsOf r w = [] <;> simp [newEntry, hp, Phase.live]
  have hnew : (newEntry s j r w (s.predecessorsOf r w)).owes i = decide (j = i) := by
    rw [Entry.owes, hlive, Bool.and_true, Bool.beq_eq_decide_eq]
    rfl
  rw [hx, entry_allocate, if_pos rfl, Option.any_some, hnew] at hcount
  rw [outstanding_eq, outstanding_eq]
  by_cases hij : j = i <;> simpa [hij] using hcount

/-- Issue leaves what is outstanding. -/
theorem outstanding_issue {s : State} {x : EntryIdx} {e : Entry} {c : Cls} (h : s.QueuesHoldReady) (hw : s.target.winner = some (c, x))
    (hx : s.entry x = some e) (i : Initiator) :
    (State.setEntry { s with target := s.target.afterIssue c } x (some { e with phase := .issued, writeData := [] })).outstanding i =
      s.outstanding i := by
  have hready := (ready_of_winner h hw hx).1
  have hcount := countEntries_change (s := s)
    (t := State.setEntry { s with target := s.target.afterIssue c } x (some { e with phase := .issued, writeData := [] })) x
    (Entry.owes i) fun y hy => by rw [entry_setEntry, if_neg (Ne.symm hy)]; rfl
  rw [entry_setEntry, if_pos rfl, hx] at hcount
  simpa [outstanding_eq, Entry.owes, Phase.live, hready] using hcount

/-- An entry owes its initiator alone. -/
theorem Entry.owes_eq_false {lost : Initiator → Prop} {i : Initiator} (hi : ¬lost i) {e : Entry}
    (h : e.phase.isDetached = true ∨ lost e.initiator) : e.owes i = false := by
  rw [Entry.owes, Bool.and_eq_false_iff, beq_eq_false_iff_ne]
  rcases h with hd | hl
  · exact .inr (by cases hp : e.phase <;> simp_all [Phase.live, Phase.isDetached])
  · exact .inl fun he => hi (he ▸ hl)

/-- Every move answers exactly what it ceases to owe to an initiator that is not lost (R3, R11, R45). -/
theorem Move.answers {lost : Initiator → Prop} {s t : State} (h : Move lost s t) (hs : s.TrackerLaws) {i : Initiator} (hi : ¬lost i) :
    t.responsesTo i + t.owed i = s.responsesTo i + s.owed i := by
  cases h with
  | calm h =>
    have ha := h.answers i hi
    rw [owed_eq, owed_eq, outstanding_of_tracker h.tracker]
    omega
  | @append j r hl _ _ =>
    have hij : j ≠ i := by rintro rfl; exact hi hl
    rw [owed_eq, owed_eq, port_modPort, if_neg hij, responsesTo_of_links (State.modPort_links ..),
      outstanding_of_tracker (State.modPort_tracker ..)]
  | @admission j r rest w x hq hx ho =>
    rw [owed_eq, owed_eq, outstanding_of_tracker (State.modPort_tracker ..), outstanding_allocate hx,
      responsesTo_of_links (State.modPort_links ..), responsesTo_of_links (allocate_links ..), port_modPort,
      port_of_ports (allocate_onlyClaims s x j r w).ports]
    by_cases hij : j = i
    · subst hij
      simp only [if_true, hq, List.length_cons]
      omega
    · simp [hij]
  | @issue c x e _ hw hx =>
    rw [owed_eq, owed_eq, outstanding_issue hs.2.2 hw hx]
    rfl
  | @answerFree x e st d hx hl =>
    have hanswer := answers_answer hs.1 hx hl st d i
    have hfree := answers_freeEntry ((entry_answer s e st d x).trans hx) i
    rw [hanswer] at hfree
    omega
  | @answerDetach x e st c hx hp =>
    have hanswer := answers_answer hs.1 hx (by rw [hp]; rfl) st [] i
    have hdetach := answers_detachEntry ((entry_answer s e st [] x).trans hx) c i
    rw [hanswer] at hdetach
    omega
  | free hx hl => simpa [Entry.owes_eq_false hi hl] using answers_freeEntry hx i
  | detach hx _ hl => simpa [Entry.owes_eq_false hi (.inr hl)] using answers_detachEntry hx _ i
  | clear hl _ _ _ _ => exact absurd (hl i) hi

end Sys2Proof.Machine
end

section
/-!
Every operation of the tracker, the target port and the initiator ports as moves.
-/

namespace Sys2Proof.Machine

variable (lost : Initiator → Prop)

/-! ### Claims (R17 to R24) -/

/-- One entry of a claim: a silent claim selects entries of lost initiators alone. -/
theorem settleEntry_moves (sel : EntryIdx → Entry → Bool) (answer : Option Status) (cause : DetachCause)
    (hl : answer = none → ∀ x e, sel x e = true → lost e.initiator) (acc : State × List Settled) (x : EntryIdx) :
    Moves lost acc.1 (settleEntry sel answer cause acc x).1 := by
  unfold settleEntry
  split
  · exact .refl
  · rename_i e hx
    split
    · rename_i hsel
      cases answer with
      | none =>
        have hlost := hl rfl x e hsel
        cases hp : e.phase with
        | issued => exact .single (.detach hx hp hlost)
        | waiting => exact .single (.free hx (.inr hlost))
        | ready => exact .single (.free hx (.inr hlost))
        | detached => exact .refl
      | some st =>
        cases hp : e.phase with
        | issued => exact .single (.answerDetach hx hp)
        | waiting => exact .single (.answerFree hx (by rw [hp]; rfl))
        | ready => exact .single (.answerFree hx (by rw [hp]; rfl))
        | detached => exact .refl
    · exact .refl

theorem claim_moves (s : State) (sel : EntryIdx → Entry → Bool) (answer : Option Status) (cause : DetachCause)
    (hl : answer = none → ∀ x e, sel x e = true → lost e.initiator) : Moves lost s (s.claim sel answer cause).1 := by
  have fold : ∀ (l : List EntryIdx) (acc : State × List Settled),
      Moves lost acc.1 (l.foldl (settleEntry sel answer cause) acc).1 := by
    intro l
    induction l with
    | nil => exact fun acc => .refl
    | cons x l ih => exact fun acc => (settleEntry_moves lost sel answer cause hl acc x).trans (ih _)
  exact fold entryIndices (s, [])

/-! What a named claim changes (R18, R19, R22). -/

theorem expiryClaim_onlyClaims (s : State) : OnlyClaims s s.expiryClaim.1 := by unfold State.expiryClaim; exact claim_onlyClaims ..
theorem fenceClaim_onlyClaims (s : State) (i : Initiator) : OnlyClaims s (s.fenceClaim i) := by
  unfold State.fenceClaim; exact claim_onlyClaims ..
theorem resyncClaim_onlyClaims (s : State) : OnlyClaims s s.resyncClaim := by unfold State.resyncClaim; exact claim_onlyClaims ..

theorem foldl_moves {α : Type} (f : State → α → State) (hf : ∀ s a, Moves lost s (f s a)) (l : List α) (s : State) :
    Moves lost s (l.foldl f s) := by
  induction l generalizing s with
  | nil => exact .refl
  | cons a l ih => exact (hf s a).trans (ih _)

theorem acknowledgeClaim_moves (s : State) : Moves lost s s.acknowledgeClaim :=
  foldl_moves lost _ (fun t x => by
    unfold State.acknowledgeEntry
    split
    · split
      · exact .single (.free (by assumption) (.inl (by assumption)))
      · exact .refl
    · exact .refl) _ s

theorem noticeClaim_moves (s : State) : Moves lost s s.noticeClaim :=
  foldl_moves lost _ (fun t x => by
    unfold State.noticeEntry
    split
    · rename_i e hx
      cases hp : e.phase with
      | issued => exact .single (.answerFree hx (by rw [hp]; rfl))
      | detached => exact .single (.free hx (.inl (by rw [hp]; rfl)))
      | waiting => exact .refl
      | ready => exact .refl
    · exact .refl) _ s

/-! ### A claim does not read the target's state, credits or timer -/

/-- The target port with another state, credit count and resync timer. -/
def State.retarget (s : State) (st : TargetState) (cr : Nat) (rt : Option RunningTimer) : State :=
  { s with target := { s.target with state := st, credits := cr, resyncTimer := rt } }

section
variable (st : TargetState) (cr : Nat) (rt : Option RunningTimer) (s : State)

theorem enqueue_retarget (x : EntryIdx) : (s.retarget st cr rt).enqueue x = (s.enqueue x).retarget st cr rt := by
  unfold State.enqueue
  rw [show (s.retarget st cr rt).entry x = s.entry x from rfl]
  split
  · split <;> rfl
  · rfl

theorem foldl_enqueue_retarget (l : List EntryIdx) :
    l.foldl State.enqueue (s.retarget st cr rt) = (l.foldl State.enqueue s).retarget st cr rt := by
  induction l generalizing s with
  | nil => rfl
  | cons x l ih => rw [List.foldl_cons, enqueue_retarget, ih, List.foldl_cons]

theorem freeEntry_retarget (x : EntryIdx) : (s.retarget st cr rt).freeEntry x = (s.freeEntry x).retarget st cr rt := by
  unfold State.freeEntry
  rw [show (s.retarget st cr rt).entry x = s.entry x from rfl]
  cases s.entry x with
  | none => rfl
  | some e => exact foldl_enqueue_retarget st cr rt ((s.unqueue x).mapEntries (unlink x e)) _

theorem answer_retarget (e : Entry) (a : Status) (d : List DataBeat) :
    (s.retarget st cr rt).answer e a d = (s.answer e a d).retarget st cr rt := by
  unfold State.answer
  split <;> rfl

theorem settleEntry_retarget (sel : EntryIdx → Entry → Bool) (answer : Option Status) (cause : DetachCause) (l : List Settled)
    (x : EntryIdx) : settleEntry sel answer cause (s.retarget st cr rt, l) x =
      ((settleEntry sel answer cause (s, l) x).1.retarget st cr rt, (settleEntry sel answer cause (s, l) x).2) := by
  unfold settleEntry
  simp only [show (s.retarget st cr rt).entry x = s.entry x from rfl]
  cases s.entry x with
  | none => rfl
  | some e =>
    simp only
    split
    · cases answer with
      | none =>
        cases e.phase with
        | issued => rfl
        | waiting => simp only [freeEntry_retarget]
        | ready => simp only [freeEntry_retarget]
        | detached => rfl
      | some a =>
        cases e.phase with
        | issued => simp only [answer_retarget]; rfl
        | waiting => simp only [answer_retarget, freeEntry_retarget]
        | ready => simp only [answer_retarget, freeEntry_retarget]
        | detached => rfl
    · rfl

theorem claim_retarget (sel : EntryIdx → Entry → Bool) (answer : Option Status) (cause : DetachCause) :
    ((s.retarget st cr rt).claim sel answer cause).1 = (s.claim sel answer cause).1.retarget st cr rt := by
  have fold : ∀ (l : List EntryIdx) (u : State) (done : List Settled),
      (l.foldl (settleEntry sel answer cause) (u.retarget st cr rt, done)).1 =
        (l.foldl (settleEntry sel answer cause) (u, done)).1.retarget st cr rt := by
    intro l
    induction l with
    | nil => exact fun _ _ => rfl
    | cons x l ih =>
      intro u done
      rw [List.foldl_cons, settleEntry_retarget, ih, List.foldl_cons]
  exact fold entryIndices s []

theorem offlineClaim_retarget : (s.retarget st cr rt).offlineClaim = s.offlineClaim.retarget st cr rt := by
  unfold State.offlineClaim
  exact claim_retarget ..

theorem resyncClaim_retarget : (s.retarget st cr rt).resyncClaim = s.resyncClaim.retarget st cr rt := by
  unfold State.resyncClaim
  exact claim_retarget ..

end

/-! ### The target port (chapter 6) -/

theorem setCredits_calm (s : State) (n : Nat) : Calm lost s (s.setCredits n) := by
  have hset : Calm lost s { s with target := { s.target with credits := min Config.targetTags n } } :=
    { Calm.refl lost s with queueOf := fun c => by cases c <;> rfl, ranges := fun h => { h with } }
  unfold State.setCredits
  split
  · exact hset.trans (logFault_calm lost _ _)
  · exact hset

theorem bringOnline_calm (s : State) (n : Nat) : Calm lost s (s.bringOnline n) := by
  unfold State.bringOnline
  refine ((setCredits_calm lost s n).trans ?_).trans (recheck_calm lost _)
  exact { Calm.refl lost (s.setCredits n) with
    offline := fun h => by simp [State.changeTarget] at h
    queueOf := fun c => by cases c <;> rfl
    ranges := fun h => { h with
      target := by
        obtain ⟨-, hw1, hw2, -, -⟩ := h.target
        exact ⟨Nat.zero_le 4, hw1, hw2, by simp [State.changeTarget], by simp [State.changeTarget]⟩ } }

theorem completion_moves (s : State) (r : Response) (e : Entry) (hx : s.entry r.tag = some e) (hp : e.phase = .issued) :
    Moves lost s (s.completion r e) := by
  have hfree : Moves lost s ((s.answer e (responseAnswer r e) (responseData r e)).freeEntry r.tag) :=
    .single (.answerFree hx (by rw [hp]; rfl))
  have hreport := (hfree.calm (notices_calm lost s _)).calm (report_calm lost _
    [{ event := .completed, initiator := e.initiator, qualifier := completedQualifier (responseAnswer r e) }]
    (some (e.initiator, s.timebase.count - e.admissionTick)))
  unfold State.completion
  simp only
  split
  · exact hreport
  · exact hreport.calm (logFault_calm lost _ _)

theorem lateResponse_moves (s : State) (x : EntryIdx) (e : Entry) (c : DetachCause) (hx : s.entry x = some e)
    (hp : e.phase = .detached c) : Moves lost s (s.lateResponse x e c) := by
  have hfree : Moves lost s (s.freeEntry x) := .single (.free hx (.inl (by rw [hp]; rfl)))
  exact ((hfree.calm (notices_calm lost s _)).calm (logFault_calm lost _ _)).calm (report_calm lost _ _ none)

theorem takeResponse_moves (s : State) (r : Response) : Moves lost s (s.takeResponse r) := by
  unfold State.takeResponse
  split
  · exact .refl
  · split
    · exact (logFault_calm lost s _).moves
    · rename_i e hx
      cases hp : e.phase with
      | issued => exact completion_moves lost s r e hx hp
      | detached c => exact lateResponse_moves lost s r.tag e c hx hp
      | waiting => exact (logFault_calm lost s _).moves
      | ready => exact (logFault_calm lost s _).moves

theorem takeCredit_calm (s : State) (n : Nat) : Calm lost s (s.takeCredit n) := by
  unfold State.takeCredit
  split
  · exact setCredits_calm lost s _
  · exact setCredits_calm lost s _
  · exact Calm.refl lost s
  · exact Calm.refl lost s

theorem acknowledge_moves (s : State) (n : Nat) : Moves lost s (s.acknowledge n) :=
  (acknowledgeClaim_moves lost s).calm (bringOnline_calm lost _ n)

theorem restarted_moves (s : State) (n : Nat) : Moves lost s (s.restarted n) :=
  (noticeClaim_moves lost s).calm (bringOnline_calm lost _ n)

theorem takeAck_moves (s : State) (n : Nat) : Moves lost s (s.takeAck n) := by
  unfold State.takeAck
  split
  · exact acknowledge_moves lost s n
  all_goals exact (logFault_calm lost s _).moves

theorem takeResetNotice_moves (s : State) (n : Nat) : Moves lost s (s.takeResetNotice n) := by
  unfold State.takeResetNotice
  split
  · exact acknowledge_moves lost s n
  · exact (logFault_calm lost s _).moves
  · exact restarted_moves lost s n
  · exact restarted_moves lost s n

end Sys2Proof.Machine
end

section
/-!
What a claim makes of every entry, whatever the state it is taken in (R17).
-/

namespace Sys2Proof.Machine

/-! ### Entries that are kept -/

/-- The entry goes on: the same transaction, its phase kept or gone from WAITING to READY (R8). -/
def Entry.KeptAs (e f : Entry) : Prop := e.carriedBy f = true ∧ (f.phase = e.phase ∨ e.phase = .waiting ∧ f.phase = .ready)

theorem Entry.KeptAs.refl (e : Entry) : e.KeptAs e := ⟨carriedBy_refl e, .inl rfl⟩

theorem Entry.KeptAs.trans {e f g : Entry} (h : e.KeptAs f) (k : f.KeptAs g) : e.KeptAs g := by
  refine ⟨carriedBy_trans h.1 k.1, ?_⟩
  rcases h.2 with hp | ⟨hw, hr⟩
  · rw [← hp]; exact k.2
  · rcases k.2 with kp | ⟨kw, -⟩
    · exact .inr ⟨hw, kp.trans hr⟩
    · simp [hr] at kw

theorem Entry.KeptAs.live {e f : Entry} (h : e.KeptAs f) : f.phase.live = e.phase.live := by
  rcases h.2 with hp | ⟨hw, hr⟩
  · rw [hp]
  · rw [hw, hr]; rfl

theorem Entry.KeptAs.issued {e f : Entry} (h : e.KeptAs f) : f.phase = .issued ↔ e.phase = .issued := by
  rcases h.2 with hp | ⟨hw, hr⟩
  · rw [hp]
  · simp [hw, hr]

theorem Entry.KeptAs.isDetached {e f : Entry} (h : e.KeptAs f) : f.phase.isDetached = e.phase.isDetached := by
  rcases h.2 with hp | ⟨hw, hr⟩
  · rw [hp]
  · rw [hw, hr]; rfl

theorem entryKept_iff (s t : State) (x : EntryIdx) : s.entryKept t x = true ↔ Option.Rel Entry.KeptAs (s.entry x) (t.entry x) := by
  unfold State.entryKept
  cases s.entry x <;> cases t.entry x <;> simp [Option.rel_some_some, Entry.KeptAs]

theorem entryKept_refl (s : State) (x : EntryIdx) : s.entryKept s x = true := by
  rw [entryKept_iff]
  cases s.entry x
  · exact .none
  · exact .some (Entry.KeptAs.refl _)

theorem entryKept_of_tracker {s t : State} (h : t.tracker = s.tracker) (x : EntryIdx) : s.entryKept t x = true := by
  rw [entryKept_iff, entry_of_tracker h, ← entryKept_iff]
  exact entryKept_refl s x

theorem entryKept_trans {s t u : State} {x : EntryIdx} (h : s.entryKept t x = true) (k : t.entryKept u x = true) :
    s.entryKept u x = true := by
  rw [entryKept_iff] at *
  cases hs : s.entry x <;> cases ht : t.entry x <;> cases hu : u.entry x <;> simp_all
  exact h.trans k

/-- A freeing keeps every other entry (R9). -/
theorem entryKept_freeEntry (s : State) {x y : EntryIdx} (h : y ≠ x) : s.entryKept (s.freeEntry x) y = true := by
  cases hx : s.entry x with
  | none => rw [freeEntry_of_free s x hx]; exact entryKept_refl s y
  | some e =>
    rw [entryKept_iff, entry_freeEntry s x y e hx]
    cases hy : s.entry y with
    | none => simp [unlink, h]
    | some f =>
      obtain ⟨g, hg⟩ : ∃ g, unlink x e y (some f) = some g := by simp [unlink, h]
      obtain ⟨-, f', hf, hk⟩ := unlink_some hg
      cases hf
      rw [hg]
      exact .some hk

/-! ### One entry's turn in a claim -/

/-- The answer of a claim to an entry's initiator; a silent claim gives none. -/
def State.answerWith (s : State) (answer : Option Status) (e : Entry) : State :=
  match answer with
  | some st => s.answer e st
  | none => s

@[simp] theorem answerWith_tracker (s : State) (a : Option Status) (e : Entry) : (s.answerWith a e).tracker = s.tracker := by
  cases a
  · rfl
  · exact answer_tracker s e _ []

theorem entry_answerWith (s : State) (a : Option Status) (e : Entry) (x : EntryIdx) : (s.answerWith a e).entry x = s.entry x :=
  entry_of_tracker (answerWith_tracker s a e) x

section
variable (sel : EntryIdx → Entry → Bool) (a : Option Status) (c : DetachCause) (s : State) (l : List Settled) (x : EntryIdx)

/-- A claim passes over a FREE entry, and over one that it does not select or that is DETACHED. -/
theorem settleEntry_of_pass (h : ∀ e, s.entry x = some e → sel x e = false ∨ e.phase.isDetached = true) :
    settleEntry sel a c (s, l) x = (s, l) := by
  unfold settleEntry
  cases hx : s.entry x with
  | none => rfl
  | some e =>
    simp only
    split
    · rename_i hse
      have hd := (h e hx).resolve_left (by simp [hse])
      cases hp : e.phase with
      | detached => rfl
      | _ => rw [hp] at hd; cases hd
    · rfl

theorem settleEntry_of_issued {e : Entry} (hx : s.entry x = some e) (hs : sel x e = true) (hp : e.phase = .issued) :
    settleEntry sel a c (s, l) x = ((s.answerWith a e).detachEntry x e c, l ++ [{ index := x, entry := e }]) := by
  unfold settleEntry
  simp only [hx, hs, hp, if_true]
  cases a <;> rfl

theorem settleEntry_of_unissued {e : Entry} (hx : s.entry x = some e) (hs : sel x e = true) (hp : e.phase = .waiting ∨ e.phase = .ready) :
    settleEntry sel a c (s, l) x = ((s.answerWith a e).freeEntry x, l ++ [{ index := x, entry := e }]) := by
  unfold settleEntry
  rcases hp with hp | hp
  · simp only [hx, hs, hp, if_true]
    cases a <;> rfl
  · simp only [hx, hs, hp, if_true]
    cases a <;> rfl

end

/-- An entry is DETACHED, ISSUED, or WAITING or READY. -/
theorem Phase.cases_live (p : Phase) :
    (p.isDetached = true ∧ p.live = false) ∨ (p = .issued ∧ p.live = true) ∨ ((p = .waiting ∨ p = .ready) ∧ p.live = true) := by
  cases p <;> simp [Phase.isDetached, Phase.live]

/-! ### What a claim settles -/

theorem entryDetached_iff (s t : State) (x : EntryIdx) (c : DetachCause) : s.entryDetached t x c = true ↔
    ∃ e f, s.entry x = some e ∧ t.entry x = some f ∧ f.phase = .detached c ∧
      { e with tag := none, expiryTick := none, writeData := [] }.carriedBy f = true := by
  unfold State.entryDetached
  cases s.entry x <;> cases t.entry x <;> simp

/-- What a claim settled stays settled while its entries are kept. -/
theorem settledBy_trans {s t u : State} {sel : Entry → Bool} {c : DetachCause} {x : EntryIdx} (h : s.settledBy t sel c x = true)
    (k : t.entryKept u x = true) : s.settledBy u sel c x = true := by
  have hnone : (t.entry x).isNone = true → (u.entry x).isNone = true := fun ht => by
    rw [entryKept_iff, Option.isNone_iff_eq_none.mp ht] at k
    cases hu : u.entry x <;> simp_all
  unfold State.settledBy at *
  cases hs : s.entry x with
  | none => rw [hs] at h; exact hnone h
  | some e =>
    rw [hs] at h
    simp only at h ⊢
    split at h
    · rename_i hsel
      rw [if_pos hsel]
      split at h
      · rename_i hi
        rw [if_pos hi]
        obtain ⟨e', f, he, hf, hp, hc⟩ := (entryDetached_iff ..).mp h
        rw [entryKept_iff, hf] at k
        cases hu : u.entry x with
        | none => simp [hu] at k
        | some g =>
          rw [hu, Option.rel_some_some] at k
          refine (entryDetached_iff ..).mpr ⟨e', g, he, hu, ?_, carriedBy_trans hc k.1⟩
          rcases k.2 with kp | ⟨kw, -⟩
          · rw [kp, hp]
          · simp [hp] at kw
      · rename_i hi
        rw [if_neg hi]
        exact hnone h
    · rename_i hsel
      rw [if_neg hsel]
      exact entryKept_trans h k

/-- The selection of a claim reads nothing that the claim changes of an entry it has still to take. -/
def SteadySelection (sel : Entry → Bool) : Prop := ∀ e f : Entry, e.KeptAs f → sel f = sel e

section
variable {sel : Entry → Bool} (hsel : SteadySelection sel) (answer : Option Status) (c : DetachCause)
include hsel

/-- One entry's turn in a claim: the entry, kept so far, is settled, and every other entry is kept. -/
theorem settleEntry_settles {s u : State} {x : EntryIdx} (l : List Settled) (hx : s.entryKept u x = true) :
    s.settledBy (settleEntry (fun _ e => sel e) answer c (u, l) x).1 sel c x = true ∧
      ∀ y, y ≠ x → u.entryKept (settleEntry (fun _ e => sel e) answer c (u, l) x).1 y = true := by
  rw [entryKept_iff] at hx
  cases hs : s.entry x with
  | none =>
    have hu : u.entry x = none := by cases hu : u.entry x <;> simp_all
    have hstay : (settleEntry (fun _ e => sel e) answer c (u, l) x).1 = u := by simp [settleEntry, hu]
    rw [hstay]
    exact ⟨by simp [State.settledBy, hs, hu], fun y _ => entryKept_refl u y⟩
  | some e =>
    obtain ⟨f, hu⟩ : ∃ f, u.entry x = some f := by cases hu : u.entry x <;> simp_all
    have hk : e.KeptAs f := by simpa [hs, hu] using hx
    have hkept : s.entryKept u x = true := by rw [entryKept_iff, hs, hu]; exact .some hk
    have hlive := hk.live
    by_cases hpass : sel e = false ∨ f.phase.isDetached = true
    · have hstay := settleEntry_of_pass (fun _ e => sel e) answer c u l x fun g hg => by
        cases hu.symm.trans hg
        exact hpass.imp (hsel e f hk).trans id
      have hnot : (sel e && e.phase.live) = false := by
        rw [Bool.and_eq_false_iff, ← hlive]
        exact hpass.imp id fun hd => by cases hp : f.phase <;> simp_all [Phase.isDetached, Phase.live]
      rw [hstay]
      refine ⟨?_, fun y _ => entryKept_refl u y⟩
      simp only [State.settledBy, hs, hnot, Bool.false_eq_true, if_false, hkept]
    · obtain ⟨hse, hnd⟩ := not_or.mp hpass
      have hse : sel e = true := by simpa using hse
      have hsf : sel f = true := (hsel e f hk).trans hse
      rcases f.phase.cases_live with ⟨hd, -⟩ | ⟨hp, hl⟩ | ⟨hp, hl⟩
      · exact absurd hd hnd
      · rw [settleEntry_of_issued (fun _ e => sel e) answer c u l x hu hsf hp]
        refine ⟨?_, fun y hy => ?_⟩
        · simp only [State.settledBy, hs, hse, hk.issued.mp hp, if_true]
          refine (entryDetached_iff ..).mpr ⟨e, f.detach c, hs, ?_, rfl, ?_⟩
          · rw [State.detachEntry, entry_setEntry, if_pos rfl]
          · have hcar := carriedBy_iff.mp hk.1
            rw [carriedBy_iff]
            simp [Entry.detach, hcar]
        · rw [entryKept_iff, State.detachEntry, entry_setEntry, if_neg (Ne.symm hy), entry_answerWith, ← entryKept_iff]
          exact entryKept_refl u y
      · rw [settleEntry_of_unissued (fun _ e => sel e) answer c u l x hu hsf hp]
        refine ⟨?_, fun y hy => entryKept_trans (entryKept_of_tracker (answerWith_tracker u answer f) y) (entryKept_freeEntry _ hy)⟩
        have hni : ¬e.phase = .issued := fun he => by
          rcases hp with hp | hp <;> simpa [hp] using hk.issued.mpr he
        simp only [State.settledBy, hs, hse, ← hlive, hl, Bool.and_self, if_true, if_neg hni, entry_freeEntry_self, Option.isNone_none]

/-- A claim settles every entry (R17). -/
theorem claim_settledBy (s : State) (x : EntryIdx) : s.settledBy (s.claim (fun _ e => sel e) answer c).1 sel c x = true := by
  have fold : ∀ (l : List EntryIdx) (acc : State × List Settled), l.Nodup →
      (∀ y, (y ∈ l → s.entryKept acc.1 y = true) ∧ (y ∉ l → s.settledBy acc.1 sel c y = true)) →
      ∀ y, s.settledBy (l.foldl (settleEntry (fun _ e => sel e) answer c) acc).1 sel c y = true := by
    intro l
    induction l with
    | nil => exact fun acc _ h y => (h y).2 List.not_mem_nil
    | cons x l ih =>
      intro acc hl h
      obtain ⟨hxl, hl⟩ := List.nodup_cons.mp hl
      obtain ⟨hself, hothers⟩ := settleEntry_settles hsel answer c acc.2 ((h x).1 List.mem_cons_self)
      refine ih _ hl fun y => ⟨fun hy => ?_, fun hy => ?_⟩
      · exact entryKept_trans ((h y).1 (List.mem_cons_of_mem x hy)) (hothers y (ne_of_mem_of_not_mem hy hxl))
      · by_cases hyx : y = x
        · rw [hyx]; exact hself
        · exact settledBy_trans ((h y).2 (by simp [hyx, hy])) (hothers y hyx)
  exact fold entryIndices (s, []) (nodup_of_ascending pairwise_entryIndices)
    (fun y => ⟨fun _ => entryKept_refl s y, fun hy => absurd (mem_entryIndices y) hy⟩) x

end

/-- No entry that a claim selects is live after it (R17). -/
theorem not_live_of_settledBy {s t : State} {sel : Entry → Bool} {c : DetachCause} {x : EntryIdx} {g : Entry}
    (h : s.settledBy t sel c x = true) (hg : t.entry x = some g) :
    ∃ e, s.entry x = some e ∧ g.initiator = e.initiator ∧ (sel e = true → g.phase.isDetached = true) := by
  unfold State.settledBy at h
  cases hs : s.entry x with
  | none => simp [hs, hg] at h
  | some e =>
    rw [hs] at h
    simp only at h
    refine ⟨e, rfl, ?_⟩
    have kept : s.entryKept t x = true → g.initiator = e.initiator ∧ g.phase.isDetached = e.phase.isDetached := fun hk => by
      rw [entryKept_iff, hs, hg, Option.rel_some_some] at hk
      exact ⟨(carriedBy_iff.mp hk.1).1, hk.isDetached⟩
    split at h
    · split at h
      · obtain ⟨e', f, he, hf, hp, hc⟩ := (entryDetached_iff ..).mp h
        cases hs.symm.trans he
        cases hg.symm.trans hf
        exact ⟨(carriedBy_iff.mp hc).1, fun _ => by rw [hp]; rfl⟩
      · simp [hg] at h
    · rename_i hn
      obtain ⟨hi, hd⟩ := kept h
      refine ⟨hi, fun hse => ?_⟩
      rw [hd]
      cases hp : e.phase <;> simp_all [Phase.live, Phase.isDetached]

end Sys2Proof.Machine
end

section
/-!
The remaining operations as moves: OFFLINE and RESYNCING, the ports, the timers, the registers and the commands.
-/

namespace Sys2Proof.Machine

variable (lost : Initiator → Prop)

/-! ### Completion of a command (R190, R191) -/

theorem complete_calm (s : State) (code : Word) (st : CommandStatus) : Calm lost s (s.complete code st) := by
  obtain ⟨f, h⟩ := complete_only s code st
  rw [h]
  exact { Calm.refl lost s with ranges := fun h => { h with } }

theorem withArgument_moves (s : State) (n : Nat) (code : Word) (act : Fin n → State → State × CommandStatus)
    (h : ∀ k, Moves lost s (act k s).1) : Moves lost s (s.withArgument n code act) := by
  unfold State.withArgument
  split
  · exact (h _).calm (complete_calm lost _ _ _)
  · exact (complete_calm lost s _ _).moves

/-! ### OFFLINE and RESYNCING (R108, R110) -/

/-- A retargeted port is calm when the new state goes with its timer, and OFFLINE finds no live entry. -/
theorem retarget_calm (s : State) (st : TargetState) (cr : Nat) (rt : Option RunningTimer)
    (ho : st = .offline → ∀ x : EntryIdx, ∀ e ∈ s.entry x, e.phase.isDetached = true)
    (hr : s.InRange → (rt.isSome = true ↔ st = .resyncing) ∧
      ∀ n ∈ rt, 1 ≤ n.ticks ∧ n.ticks ≤ 65535 ∧ (n.expiryDue = true → n.ticks = 1)) :
    Calm lost s (s.retarget st cr rt) :=
  { Calm.refl lost s with
    queueOf := fun c => by cases c <;> rfl
    offline := fun h => .inr (ho h)
    ranges := fun h => { h with
      target := by
        obtain ⟨hch, hw1, hw2, -, -⟩ := h.target
        exact ⟨hch, hw1, hw2, (hr h).1, (hr h).2⟩ } }

/-- The target-offline claim leaves no live entry (R21). -/
theorem isDetached_of_offlineClaim (s : State) (x : EntryIdx) (e : Entry) (h : s.offlineClaim.entry x = some e) :
    e.phase.isDetached = true := by
  have hsettled := claim_settledBy (sel := fun _ => true) (fun _ _ _ => rfl) (some .errTarget) .offline s x
  obtain ⟨-, -, -, hd⟩ := not_live_of_settledBy hsettled h
  exact hd rfl

theorem enterOffline_eq (s : State) :
    s.enterOffline = (State.raise (s.offlineClaim.retarget .offline 0 none) .targetState).recheck := by
  rw [← offlineClaim_retarget]
  rfl

theorem enterOffline_moves (s : State) : Moves lost s s.enterOffline := by
  rw [enterOffline_eq]
  have hclaim : Moves lost s s.offlineClaim := claim_moves lost s _ _ _ (by simp)
  have haway : Calm lost s.offlineClaim (s.offlineClaim.retarget .offline 0 none) :=
    retarget_calm lost _ _ _ _ (fun _ x e he => isDetached_of_offlineClaim s x e he) fun _ => by simp
  exact ((hclaim.calm haway).calm (raise_calm lost _ .targetState)).calm (recheck_calm lost _)

/-- The start of a resynchronisation, its claim taken first: the claim reads none of what the target port changes. -/
theorem startResync_eq (s : State) :
    s.startResync = (State.raise ((s.resyncClaim.retarget .resyncing 0 (some { ticks := s.target.resyncWait })).sendTarget .resync)
      .targetState).recheck := by
  have hstart : ({ s with target := { s.target with state := .resyncing, credits := 0 } } : State) =
      s.retarget .resyncing 0 s.target.resyncTimer := rfl
  unfold State.startResync
  simp only [hstart, resyncClaim_retarget]
  refine congrArg (fun t => (State.raise t .targetState).recheck) ?_
  simp only [← (resyncClaim_onlyClaims s).resyncWait]
  generalize s.resyncClaim = u
  rfl

theorem startResync_moves (s : State) : Moves lost s s.startResync := by
  rw [startResync_eq]
  have hclaim : Moves lost s s.resyncClaim := claim_moves lost s _ _ _ (by simp)
  have hw : s.resyncClaim.target.resyncWait = s.target.resyncWait := (resyncClaim_onlyClaims s).resyncWait
  have haway : Calm lost s.resyncClaim (s.resyncClaim.retarget .resyncing 0 (some { ticks := s.target.resyncWait })) :=
    retarget_calm lost _ _ _ _ (by simp) fun h => by
      obtain ⟨-, hw1, hw2, -, -⟩ := h.target
      rw [hw] at hw1 hw2
      simp [hw1, hw2]
  exact (((hclaim.calm haway).calm (sendTarget_calm lost _ _)).calm (raise_calm lost _ .targetState)).calm (recheck_calm lost _)

theorem resyncWaitExpiry_moves (s : State) : Moves lost s s.resyncWaitExpiry := by
  unfold State.resyncWaitExpiry
  split
  · exact (logFault_calm lost s _).moves.trans (enterOffline_moves lost _)
  · exact .refl

theorem writeDetachLimit_calm (s : State) (v : Word) : Calm lost s (s.writeDetachLimit v) := by
  have hset : Calm lost s { s with target := { s.target with detachLimit := max 1 (min 64 v.toNat) } } :=
    { Calm.refl lost s with queueOf := fun c => by cases c <;> rfl, ranges := fun h => { h with } }
  unfold State.writeDetachLimit
  simp only
  split
  · exact (hset.trans (suspectIfReached_calm lost _)).trans (recheck_calm lost _)
  · exact hset.trans (suspectIfReached_calm lost _)

theorem writeResyncWait_calm (s : State) (v : Word) : Calm lost s (s.writeResyncWait v) :=
  { Calm.refl lost s with
    queueOf := fun c => by cases c <;> rfl
    ranges := fun h => { h with
      target := by
        obtain ⟨hch, -, -, hrt, hrn⟩ := h.target
        exact ⟨hch, Nat.le_max_left _ _, max_le (by omega) (by have := v.isLt; omega), hrt, hrn⟩ } }

theorem commandResync_moves (s : State) : Moves lost s s.commandResync := by
  unfold State.commandResync
  split
  · exact (complete_calm lost s _ _).moves
  · exact (startResync_moves lost s).calm (complete_calm lost _ _ _)

theorem commandOffline_moves (s : State) : Moves lost s s.commandOffline := by
  unfold State.commandOffline
  split
  · exact (complete_calm lost s _ _).moves
  · exact (enterOffline_moves lost s).calm (complete_calm lost _ _ _)

/-! ### The initiator ports (chapters 2 and 8) -/

/-- A request refused on arrival is no request the part ever owed an answer. -/
theorem refuse_calm (s : State) (i : Initiator) (r : Request) (hl : lost i) : Calm lost s (s.refuse i r) :=
  (send_calm lost s i _ (.inr hl)).trans (report_calm lost _ _ none)

theorem refuseWithCredit_calm (s : State) (i : Initiator) (r : Request) (hl : lost i) : Calm lost s (s.refuseWithCredit i r) :=
  ((send_calm lost s i _ (.inr hl)).trans (returnCredit_calm lost _ i)).trans (report_calm lost _ _ none)

theorem appendRequest_moves (s : State) (i : Initiator) (r : Request) (hl : lost i) (hd : s.duplicateTag i r.tag = false)
    (hw : requestMalformed r = false) : Moves lost s (s.appendRequest i r) := by
  unfold State.appendRequest
  simp only
  split
  · exact (Moves.calm (.single (.append hl hd hw)) (headArrives_calm lost _ i))
  · exact .single (.append hl hd hw)

theorem checkArrival_moves (s : State) (i : Initiator) (r : Request) (hl : lost i) : Moves lost s (s.checkArrival i r) := by
  unfold State.checkArrival
  split
  · exact ((returnCredit_calm lost s i).trans (logFault_calm lost _ _)).moves
  · rename_i hd
    split
    · exact ((refuseWithCredit_calm lost s i r hl).trans (logFault_calm lost _ _)).moves
    · rename_i hw
      split
      · exact (refuseWithCredit_calm lost s i r hl).moves
      · exact appendRequest_moves lost s i r hl (by simpa using hd) (by simpa using hw)

theorem arrive_moves (s : State) (i : Initiator) (r : Request) (hl : lost i) : Moves lost s (s.arrive i r) := by
  unfold State.arrive
  split
  · exact (logFault_calm lost s _).moves
  · exact (refuse_calm lost s i r hl).moves
  · split
    · exact (logFault_calm lost s _).moves
    · exact (modPort_calm lost s i (fun p => { p with granted := p.granted - 1 }) rfl).moves.trans (checkArrival_moves lost _ i r hl)

/-- Closing a port with an empty queue, or one whose requests are lost, is calm. -/
theorem closePort_calm (s : State) (i : Initiator) (st : PortState) (h : (s.port i).queue = [] ∨ lost i) :
    Calm lost s (s.closePort i st) := by
  have hq : ∀ j, ((s.closePort i st).port j).queue = if i = j then [] else (s.port j).queue := fun j => by
    unfold State.closePort
    rw [port_setHead, port_modPort]
    split <;> rfl
  have hlinks : (s.closePort i st).links = s.links := rfl
  exact { Calm.refl lost s with
    queue := fun j => by
      rw [hq]
      split
      · exact List.nil_suffix
      · exact List.suffix_rfl
    answers := fun j hj => by
      rw [hq, responsesTo_of_links hlinks]
      split
      · rename_i hij
        subst hij
        rw [h.resolve_right hj]
      · rfl
    ranges := fun h => { h with } }

theorem completeDrain_calm (s : State) (i : Initiator) : Calm lost s (s.completeDrain i) :=
  ((send_calm lost s i .revoke (.inl rfl)).trans
    (modPort_calm lost _ i (fun p => { p with state := .fenced, granted := 0 }) rfl)).trans (raise_calm lost _ _)

theorem takeZeroNotice_calm (s : State) (i : Initiator) : Calm lost s (s.takeZeroNotice i) := by
  unfold State.takeZeroNotice
  split
  · exact completeDrain_calm lost s i
  · exact Calm.refl lost s

/-- Emptying a queue and answering every request of it is calm: `refuse` answers one request and leaves every port's queue. -/
theorem refuseAll_calm (s : State) (i : Initiator) (refuse : State → Request → State)
    (hcalm : ∀ t r, Calm (· = i) t (refuse t r)) (hport : ∀ t r, ((refuse t r).port i).queue = (t.port i).queue)
    (hanswer : ∀ t r, (refuse t r).responsesTo i = t.responsesTo i + 1) :
    Calm lost s ((s.port i).queue.foldl refuse (s.modPort i fun p => { p with queue := [] })) ∧
      (((s.port i).queue.foldl refuse (s.modPort i fun p => { p with queue := [] })).port i).queue = [] := by
  have fold : ∀ (q : List Request) (t : State), ((q.foldl refuse t).port i).queue = (t.port i).queue ∧
      (q.foldl refuse t).responsesTo i = t.responsesTo i + q.length := by
    intro q
    induction q with
    | nil => exact fun t => ⟨rfl, rfl⟩
    | cons r q ih =>
      intro t
      obtain ⟨hp, ha⟩ := ih (refuse t r)
      rw [List.foldl_cons, hp, ha, hport, hanswer, List.length_cons]
      exact ⟨rfl, by omega⟩
  obtain ⟨hp, ha⟩ := fold (s.port i).queue (s.modPort i fun p => { p with queue := [] })
  have hempty : (((s.port i).queue.foldl refuse (s.modPort i fun p => { p with queue := [] })).port i).queue = [] := by
    rw [hp, port_modPort, if_pos rfl]
  have hdrop : Calm (· = i) s (s.modPort i fun p => { p with queue := [] }) :=
    { Calm.refl (· = i) s with
      queue := fun j => by
        rw [port_modPort]
        split
        · exact List.nil_suffix
        · exact List.suffix_rfl
      answers := fun j hj => by
        rw [port_modPort, if_neg (Ne.symm hj), responsesTo_of_links (State.modPort_links ..)]
      ranges := fun h => { h with } }
  have hall := hdrop.trans (Calm.foldl refuse hcalm (s.port i).queue _)
  refine ⟨hall.with_answers fun j _ => ?_, hempty⟩
  by_cases hj : j = i
  · subst hj
    rw [hempty, ha, responsesTo_of_links (State.modPort_links ..)]
    simp
  · exact hall.answers j hj

theorem refuse_port (s : State) (i j : Initiator) (r : Request) : (s.refuse i r).port j = s.port j :=
  port_of_ports (report_onlyMonitor _ _ none).ports j

theorem refuse_responsesTo (s : State) (i : Initiator) (r : Request) : (s.refuse i r).responsesTo i = s.responsesTo i + 1 := by
  unfold State.refuse
  rw [responsesTo_of_links (report_onlyMonitor _ _ none).links, responsesTo_send, if_pos ⟨rfl, rfl⟩]

theorem refuseWithCredit_queue (s : State) (i j : Initiator) (r : Request) : ((s.refuseWithCredit i r).port j).queue = (s.port j).queue := by
  unfold State.refuseWithCredit
  rw [port_of_ports (report_onlyMonitor _ _ none).ports, port_returnCredit]
  split <;> rfl

theorem responsesTo_returnCredit (s : State) (i j : Initiator) : (s.returnCredit i).responsesTo j = s.responsesTo j := by
  unfold State.returnCredit
  rw [responsesTo_send, if_neg (by rintro ⟨-, h⟩; cases h), Nat.add_zero, responsesTo_of_links (State.modPort_links ..)]

theorem refuseWithCredit_responsesTo (s : State) (i : Initiator) (r : Request) :
    (s.refuseWithCredit i r).responsesTo i = s.responsesTo i + 1 := by
  unfold State.refuseWithCredit
  rw [responsesTo_of_links (report_onlyMonitor _ _ none).links, responsesTo_returnCredit, responsesTo_send, if_pos ⟨rfl, rfl⟩]

theorem refuseQueue_calm (s : State) (i : Initiator) :
    Calm lost s (s.refuseQueue i) ∧ ((s.refuseQueue i).port i).queue = [] :=
  refuseAll_calm lost s i (fun t r => t.refuse i r) (fun t r => refuse_calm (· = i) t i r rfl) (fun t r => by rw [refuse_port])
    (fun t r => refuse_responsesTo t i r)

theorem refuseQueueWithCredit_calm (s : State) (i : Initiator) : Calm lost s (s.refuseQueueWithCredit i) :=
  (refuseAll_calm lost s i (fun t r => t.refuseWithCredit i r) (fun t r => refuseWithCredit_calm (· = i) t i r rfl)
    (fun t r => refuseWithCredit_queue t i i r) (fun t r => refuseWithCredit_responsesTo t i r)).1

theorem enablePort_calm (s : State) (i : Initiator) : Calm lost s (s.enablePort i).1 := by
  have hopen : Calm lost s ((s.send i (.credit 8)).modPort i fun p => { p with state := .active, granted := 8 }) :=
    (send_calm lost s i (.credit 8) (.inl rfl)).trans (modPort_calm lost _ i (fun p => { p with state := .active, granted := 8 }) rfl)
  unfold State.enablePort
  split
  · exact hopen
  · exact hopen
  · exact Calm.refl lost s
  · exact Calm.refl lost s

theorem drainPort_calm (s : State) (i : Initiator) : Calm lost s (s.drainPort i).1 := by
  unfold State.drainPort
  split
  · exact (((refuseQueueWithCredit_calm lost s i).trans (modPort_calm lost _ i (fun p => { p with state := .draining }) rfl)).trans
      (setHead_calm lost _ i _)).trans (takeZeroNotice_calm lost _ i)
  all_goals exact Calm.refl lost s

theorem fence_moves (s : State) (i : Initiator) : Moves lost s (s.fence i) := by
  obtain ⟨hcalm, hempty⟩ := refuseQueue_calm lost s i
  have hclaim : Moves lost _ (((s.refuseQueue i).setHead i .noHead).fenceClaim i) := claim_moves lost _ _ _ _ (by simp)
  have hqueue : (((((s.refuseQueue i).setHead i .noHead).fenceClaim i).send i .revoke).port i).queue = [] := by
    rw [port_of_ports (State.send_ports ..), port_of_ports (fenceClaim_onlyClaims ..).ports, port_setHead, hempty]
  unfold State.fence
  simp only
  exact ((((hcalm.trans (setHead_calm lost _ i _)).moves.trans hclaim).calm (send_calm lost _ i .revoke (.inl rfl))).calm
    (closePort_calm lost _ i _ (.inl hqueue))).calm (notices_calm lost s _)

theorem fencePort_moves (s : State) (i : Initiator) : Moves lost s (s.fencePort i).1 := by
  have hnotice := (takeZeroNotice_calm lost s i).moves
  unfold State.fencePort
  simp only
  split <;> simp only
  · exact hnotice.trans (fence_moves lost _ i)
  · exact hnotice.trans (fence_moves lost _ i)
  · exact hnotice
  · exact hnotice

theorem resetPort_moves (s : State) (i : Initiator) (hl : lost i) : Moves lost s (s.resetPort i) := by
  have hdrop : Calm lost s (s.modPort i fun p => { p with queue := [] }) :=
    { Calm.refl lost s with
      queue := fun j => by
        rw [port_modPort]
        split
        · exact List.nil_suffix
        · exact List.suffix_rfl
      answers := fun j hj => by
        rw [port_modPort, if_neg (by rintro rfl; exact hj hl), responsesTo_of_links (State.modPort_links ..)]
      ranges := fun h => { h with } }
  have hclaim : Moves lost _ (((s.modPort i fun p => { p with queue := [] }).setHead i .noHead).linkResetClaim i) :=
    claim_moves lost _ _ _ _ fun _ _ e he => by rw [beq_iff_eq] at he; rwa [he]
  unfold State.resetPort
  simp only
  exact (((((hdrop.trans (setHead_calm lost _ i _)).moves.trans hclaim).calm (closePort_calm lost _ i _ (.inr hl))).calm
    (raise_calm lost _ _)).calm (logFault_calm lost _ _)).calm (notices_calm lost s _)

theorem linkReset_moves (s : State) (i : Initiator) (hl : lost i) : Moves lost s (s.linkReset i) := by
  have hnotice := (takeZeroNotice_calm lost s i).moves
  unfold State.linkReset
  simp only
  split
  · exact hnotice.calm (logFault_calm lost _ _)
  all_goals exact hnotice.trans (resetPort_moves lost _ i hl)

theorem takeUndefined_calm (s : State) (l : Link) : Calm lost s (s.takeUndefined l) := by
  cases l
  · exact logFault_calm lost s _
  · exact logFault_calm lost s _

end Sys2Proof.Machine
end

section
/-!
The arbiters, the ticks and the register writes as moves.
-/

namespace Sys2Proof.Machine

variable (lost : Initiator → Prop)

/-! ### Admission and issue (R62 to R64, R99) -/

/-- A head passes only while the target is ONLINE (R54). -/
theorem online_of_verdict_pass {s : State} {i : Initiator} {r : Request} (h : s.verdict i r = .pass) : s.target.state = .online := by
  unfold State.verdict at h
  split at h
  · cases h
  · split at h
    · cases h
    · split at h
      · cases h
      · cases h
      · cases h
      · assumption

/-- The winner of a grant is a candidate (R62). -/
theorem candidate_of_grantWinner {s : State} {i : Initiator} (h : s.grantWinner = some i) : s.candidate i = true := by
  have hwinner : ∀ c p, s.winnerOf c p = some i → s.candidate i = true := fun c p hw => by
    have hfound := List.find?_some hw
    exact (Bool.and_eq_true_iff.mp hfound).1
  unfold State.grantWinner at h
  split at h
  · rename_i hw; cases h; exact hwinner _ _ hw
  · exact hwinner _ _ h

theorem online_of_grantWinner {s : State} {i : Initiator} (h : s.grantWinner = some i) : s.target.state = .online := by
  have hc := candidate_of_grantWinner h
  unfold State.candidate at hc
  split at hc
  · simp at hc
  · simp only [Bool.and_eq_true, decide_eq_true_eq] at hc
    exact online_of_verdict_pass hc.2

theorem movePointer_calm (s : State) (i : Initiator) : Calm lost s (s.movePointer i) := by
  unfold State.movePointer
  split
  · exact { Calm.refl lost s with ranges := fun h => { h with } }
  · exact { Calm.refl lost s with ranges := fun h => { h with } }

/-- A remaining budget set within its range is calm. -/
theorem setRemaining_calm (s : State) (i : Initiator) (n : Nat) (hn : s.InRange → n ≤ 131070) : Calm lost s (s.setRemaining i n) :=
  { Calm.refl lost s with
    ranges := fun h => { h with
      regulation := by
        obtain ⟨hr, hp, ht, hk⟩ := h.regulation
        refine ⟨fun j => ?_, hp, ht, hk⟩
        simp only [State.setRemaining, set_get]
        split
        · exact hn h
        · exact hr j } }

theorem charge_calm (s : State) (i : Initiator) (n : Nat) : Calm lost s (s.charge i n) := by
  unfold State.charge
  split
  · exact setRemaining_calm lost s i _ fun h => (Nat.sub_le _ _).trans (h.regulation.1 i)
  · exact Calm.refl lost s

theorem charge_ports (s : State) (i : Initiator) (n : Nat) : (s.charge i n).ports = s.ports := by
  unfold State.charge
  split <;> rfl

theorem charge_target (s : State) (i : Initiator) (n : Nat) : (s.charge i n).target = s.target := by
  unfold State.charge
  split <;> rfl

theorem movePointer_ports (s : State) (i : Initiator) : (s.movePointer i).ports = s.ports := by
  unfold State.movePointer
  split <;> rfl

theorem movePointer_target (s : State) (i : Initiator) : (s.movePointer i).target = s.target := by
  unfold State.movePointer
  split <;> rfl

theorem admitHead_moves (s : State) (i : Initiator) (r : Request) (rest : List Request) (w : WindowIdx) (x : EntryIdx)
    (hq : (s.port i).queue = r :: rest) (hx : s.entry x = none) (ho : s.target.state = .online) :
    Moves lost s (s.admitHead i r rest w x) := by
  have hbefore : Calm lost s ((s.movePointer i).charge i r.beats) := (movePointer_calm lost s i).trans (charge_calm lost _ i _)
  have hadmit : Move lost ((s.movePointer i).charge i r.beats)
      ((((s.movePointer i).charge i r.beats).allocate x i r w).modPort i fun p => { p with queue := rest }) :=
    .admission (by rw [port_of_ports (charge_ports ..), port_of_ports (movePointer_ports ..), hq])
      (by rw [entry_of_tracker hbefore.tracker, hx]) (by rw [charge_target, movePointer_target, ho])
  exact (Moves.calm (hbefore.moves.tail hadmit) (returnCredit_calm lost _ i)).calm (report_calm lost _ _ none)

theorem grant_moves (s : State) : Moves lost s s.grant := by
  unfold State.grant
  split
  · exact .refl
  · rename_i i hw
    split
    · exact .refl
    · rename_i r rest hq
      split
      · rename_i w x _ hf
        have hfree : s.entry x = none := by simpa using List.find?_some hf
        exact ((admitHead_moves lost s i r rest w x hq hfree (online_of_grantWinner hw)).calm (headArrives_calm lost _ i)).calm
          (recheck_calm lost _)
      · exact .refl

theorem issue_moves (s : State) : Moves lost s s.issue := by
  unfold State.issue
  split
  · rename_i hc
    split
    · exact .refl
    · rename_i c x hw
      split
      · exact .refl
      · rename_i e hx
        exact (Moves.calm (.single (.issue hc hw hx)) (sendTarget_calm lost _ _)).calm (report_calm lost _ _ none)
  · exact .refl

/-! ### The timers and the monitor's tick (chapters 5 and 7) -/

theorem expire_moves (s : State) : Moves lost s s.expire := by
  have hclaim : Moves lost s s.expiryClaim.1 := claim_moves lost s _ _ _ (by simp)
  exact (hclaim.calm (notices_calm lost s _)).calm (Calm.foldl _
    (fun t x => (logFault_calm lost t _).trans (report_calm lost _ _ none)) _ _)

theorem refilled_le {p : Profile} (h : p.InRange) {n : Nat} (hn : n ≤ 131070) : refilled p n ≤ 131070 := by
  obtain ⟨-, hb, hc, -⟩ := h
  unfold refilled
  split
  · have := Nat.min_le_right n p.carryLimit
    omega
  · exact hn

theorem periodExpiry_calm (s : State) : Calm lost s s.periodExpiry := by
  unfold State.periodExpiry
  split
  · rename_i hdue
    have hset : Calm lost s { s with regulation := { s.regulation with
        timer := some { ticks := 0 }, remaining := Vector.ofFn fun i => refilled (s.profile i) (s.remaining i) } } :=
      { Calm.refl lost s with
        ranges := fun h => { h with
          regulation := by
            obtain ⟨hr, hp, ht, -⟩ := h.regulation
            obtain ⟨n, hn, -⟩ := (periodDue_iff _).mp hdue
            have hpos : s.regulation.period ≠ 0 := fun h0 => by simp [ht.mpr h0] at hn
            refine ⟨fun i => ?_, hp, by simpa using hpos, by simp; omega⟩
            rw [ofFn_get]
            exact refilled_le (h.profiles i) (hr i) } }
    simp only
    split
    · exact hset.trans (recheck_calm lost _)
    · exact hset
  · exact Calm.refl lost s

theorem takeSample_calm (s : State) : Calm lost s s.takeSample := (sampleOwed_calm lost s false).trans (sampleAll_calm lost _)

theorem offerSample_calm (s : State) : Calm lost s s.offerSample := by
  rcases offerSample_cases s with ⟨-, h⟩ | ⟨-, -, h⟩ | ⟨-, -, h | h⟩ <;> rw [h]
  · exact Calm.refl lost s
  · exact takeSample_calm lost s
  · exact (choices_calm lost s _).trans (takeSample_calm lost _)
  · exact choices_calm lost s _

theorem takeExpiry_moves (s : State) : Moves lost s s.takeExpiry := (expire_moves lost s).calm (offerSample_calm lost _)

theorem takePeriodExpiry_calm (s : State) : Calm lost s s.takePeriodExpiry := (periodExpiry_calm lost s).trans (offerSample_calm lost _)

theorem takeResyncWaitExpiry_moves (s : State) : Moves lost s s.takeResyncWaitExpiry :=
  (resyncWaitExpiry_moves lost s).calm (offerSample_calm lost _)

/-- A tick leaves a timer in its range: the last tick marks the expiry and leaves the count (R83, R86). -/
theorem Regulation.inRange_countTick {g : Regulation} (h : g.InRange) : g.countTick.InRange := by
  obtain ⟨hr, hp, ht, hk⟩ := h
  obtain ⟨heq, hnone, hsome⟩ := countTick_timer g
  rw [heq]
  cases hg : g.timer with
  | none =>
    rw [hnone hg]
    exact ⟨hr, hp, by simpa [hg] using ht, by simp⟩
  | some n =>
    obtain ⟨hlt, hdue⟩ := hk n hg
    rw [hsome n hg]
    split
    · refine ⟨hr, hp, by simpa [hg] using ht, ?_⟩
      simp
      omega
    · refine ⟨hr, hp, by simpa [hg] using ht, ?_⟩
      simp
      exact ⟨by omega, fun hd => absurd (hdue hd) (by omega)⟩

/-- The same of the resync wait (R97, R112). -/
theorem TargetPort.inRange_countTick {t : TargetPort} (h : t.InRange) : t.countTick.InRange := by
  obtain ⟨hch, hw1, hw2, hrt, hrn⟩ := h
  obtain ⟨heq, hnone, hsome⟩ := countTick_resyncTimer t
  rw [heq]
  cases ht : t.resyncTimer with
  | none =>
    rw [hnone ht]
    exact ⟨hch, hw1, hw2, by simpa [ht] using hrt, by simp⟩
  | some n =>
    obtain ⟨h1, h2, hdue⟩ := hrn n ht
    rw [hsome n ht]
    split
    · refine ⟨hch, hw1, hw2, by simpa [ht] using hrt, ?_⟩
      simp
      omega
    · refine ⟨hch, hw1, hw2, by simpa [ht] using hrt, ?_⟩
      simp
      exact ⟨by omega, by omega, fun hd => absurd (hdue hd) (by omega)⟩

theorem countTick_calm (s : State) : Calm lost s s.countTick := by
  unfold State.countTick
  refine Calm.trans ?_ (offerSample_calm lost _)
  exact { Calm.refl lost s with
    queueOf := fun c => by cases c <;> rfl
    ranges := fun h => { h with
      regulation := Regulation.inRange_countTick h.regulation
      target := TargetPort.inRange_countTick h.target
      timebase := by
        obtain ⟨h1, h2, -⟩ := h.timebase
        exact ⟨h1, h2, h1⟩ } }

theorem tick_moves (s : State) : Moves lost s s.tick :=
  (((takeExpiry_moves lost s).calm (takePeriodExpiry_calm lost _)).trans (takeResyncWaitExpiry_moves lost _)).calm
    (countTick_calm lost _)

theorem countRefclk_moves (s : State) : Moves lost s s.countRefclk := by
  unfold State.countRefclk
  split
  · rename_i hlt
    exact Calm.moves { Calm.refl lost s with
      ranges := fun h => { h with
        timebase := by
          obtain ⟨h1, h2, -⟩ := h.timebase
          exact ⟨h1, h2, hlt⟩ } }
  · exact tick_moves lost s

theorem writePeriod_calm (s : State) (v : Word) : Calm lost s (s.writePeriod v) :=
  { Calm.refl lost s with
    ranges := fun h => { h with
      regulation := by
        obtain ⟨hr, -, -, -⟩ := h.regulation
        have hv := v.isLt
        refine ⟨hr, by simp only [State.writePeriod]; omega, ?_, ?_⟩
        · simp [State.writePeriod]
        · simp only [State.writePeriod]
          split
          · simp
          · simp; omega } }

theorem writePrescaler_calm (s : State) (v : Word) : Calm lost s (s.writePrescaler v) :=
  { Calm.refl lost s with
    ranges := fun h => { h with
      timebase := by
        simp only [Timebase.InRange, State.writePrescaler]
        omega } }

theorem drive_calm (s : State) (v : Word) : Calm lost s (s.drive v) := { Calm.refl lost s with ranges := fun h => { h with } }

theorem readTickLow_calm (s : State) : Calm lost s s.readTickLow := { Calm.refl lost s with ranges := fun h => { h with } }

theorem reloadBudget_calm (s : State) (i : Initiator) : Calm lost s (s.reloadBudget i) :=
  (setRemaining_calm lost s i _ fun h => (h.profiles i).2.1.trans (by omega)).trans (recheck_calm lost _)

/-! ### Windows, profiles, edges and the monitor's registers (chapters 3, 4 and 9) -/

/-- A staged window that is taken is within its bounds (R71). -/
theorem stagedWindow_withinBounds {s : State} {v : Window} (h : s.stagedWindow = some v) : v.withinBounds = true := by
  unfold State.stagedWindow at h
  split at h
  · simp only at h
    split at h
    · cases h; assumption
    · cases h
  · cases h

theorem commitWindow_calm (s : State) (w : WindowIdx) : Calm lost s (s.commitWindow w).1 := by
  unfold State.commitWindow
  split
  · rename_i v hv
    refine Calm.trans ?_ (recheck_calm lost _)
    exact { Calm.refl lost s with
      ranges := fun h => { h with
        windows := fun u => by
          rw [set_get]
          split
          · exact stagedWindow_withinBounds hv
          · exact h.windows u } }
  · exact raise_calm lost s _

/-- A staged profile that is taken is within its ranges (R50). -/
theorem stagedProfile_inRange {s : State} {p : Profile} (h : s.stagedProfile = some p) : p.InRange := by
  unfold State.stagedProfile at h
  split at h
  · simp only at h
    split at h
    · rename_i hb
      cases h
      have h1 := (s.staged 1).isLt
      have h2 := (s.staged 2).isLt
      have h5 := (s.staged 5).isLt
      refine ⟨hb, ?_, ?_, ?_⟩ <;> simp only <;> omega
    · cases h
  · cases h

theorem commitProfile_calm (s : State) (i : Initiator) : Calm lost s (s.commitProfile i).1 := by
  unfold State.commitProfile
  split
  · rename_i p hp
    refine Calm.trans ?_ (recheck_calm lost _)
    exact { Calm.refl lost s with
      ranges := fun h => { h with
        profiles := fun j => by
          simp only [State.profile, set_get]
          split
          · exact stagedProfile_inRange hp
          · exact h.profiles j } }
  · exact raise_calm lost s _

/-- A staged edge list that is taken is in its range (R168). -/
theorem stagedEdges_inRange {s : State} {e : Vector Nat 7} (h : s.stagedEdges = some e) :
    edgesValid e = true ∧ ∀ k : Fin 7, e[k] ≤ 65535 := by
  unfold State.stagedEdges at h
  simp only at h
  split at h
  · rename_i hv
    cases h
    refine ⟨hv, fun k => ?_⟩
    have hw : ∀ j, (s.staged j).toNat ≤ 65535 := fun j => by have := (s.staged j).isLt; omega
    fin_cases k
    · exact hw 0
    · exact hw 1
    · exact hw 2
    · exact hw 3
    · exact hw 4
    · exact hw 5
    · exact hw 6
  · cases h

theorem commandWriteEdges_calm (s : State) : Calm lost s s.commandWriteEdges := by
  unfold State.commandWriteEdges
  split
  · rename_i e he
    refine Calm.trans ?_ (complete_calm lost _ _ _)
    exact { Calm.refl lost s with
      ranges := fun h => { h with
        monitor := ⟨(stagedEdges_inRange he).1, (stagedEdges_inRange he).2, h.monitor.2.2⟩ } }
  · exact (raise_calm lost s _).trans (complete_calm lost _ _ _)

theorem clearBins_calm (s : State) (i : Initiator) : Calm lost s (s.clearBins i) :=
  { Calm.refl lost s with
    ranges := fun h => { h with
      monitor := ⟨h.monitor.1, h.monitor.2.1, fun j k => by
        simp only [State.clearBins, set_get]
        split
        · rw [Fin.getElem_fin, Vector.getElem_replicate]; exact Nat.zero_le _
        · exact h.monitor.2.2 j k⟩ } }

theorem modCounter_calm (s : State) (c : CounterIdx) (f : Counter → Counter) : Calm lost s (s.modCounter c f) :=
  { Calm.refl lost s with ranges := fun h => { h with } }

theorem setBank_calm (s : State) (b : BankState) : Calm lost s (s.setBank b) :=
  { Calm.refl lost s with ranges := fun h => { h with } }

theorem clearCounters_calm (s : State) : Calm lost s s.clearCounters :=
  { Calm.refl lost s with ranges := fun h => { h with } }

theorem clearOverflows_calm (s : State) (v : Word) : Calm lost s (s.clearOverflows v) :=
  { Calm.refl lost s with ranges := fun h => { h with } }

theorem readCounterLow_calm (s : State) (c : CounterIdx) : Calm lost s (s.readCounterLow c) :=
  (modCounter_calm lost s c _).trans (drive_calm lost _ _)

theorem commandFaultPop_calm (s : State) : Calm lost s s.commandFaultPop := by
  unfold State.commandFaultPop
  split
  · exact complete_calm lost s _ _
  · rename_i f rest hl
    refine Calm.trans ?_ (complete_calm lost _ _ _)
    exact { Calm.refl lost s with
      ranges := fun h => { h with
        faultLog := by
          have := h.faultLog
          rw [hl, List.length_cons] at this
          exact Nat.le_of_succ_le this } }

end Sys2Proof.Machine
end

section
/-!
Every command is a sequence of moves; O55 and O58: what every step keeps.
-/

namespace Sys2Proof.Machine

variable (lost : Initiator → Prop)

/-! ### Resets (R193, R195) -/

theorem resetPortTraffic_links (s : State) (i j : Initiator) :
    (s.resetPortTraffic i).responsesTo j = s.responsesTo j := by
  unfold State.resetPortTraffic
  simp only
  rw [responsesTo_of_links (State.modPort_links ..)]
  split
  · rfl
  · rw [responsesTo_send, if_neg (by rintro ⟨-, h⟩; cases h), Nat.add_zero]

/-- A port at traffic reset is closed and empty, and stays so while the others are reset (R154). -/
theorem port_resetPortTraffic (s : State) (i j : Initiator) :
    (s.resetPortTraffic i).port j = if i = j then .reset else s.port j := by
  unfold State.resetPortTraffic
  simp only
  rw [port_modPort]
  split
  · rfl
  · split <;> rfl

theorem foldl_resetPortTraffic (l : List Initiator) (s : State) (j : Initiator) :
    (l.foldl State.resetPortTraffic s).responsesTo j = s.responsesTo j ∧
      ((j ∈ l ∨ s.port j = .reset) → (l.foldl State.resetPortTraffic s).port j = .reset) := by
  induction l generalizing s with
  | nil => exact ⟨rfl, fun h => h.resolve_left List.not_mem_nil⟩
  | cons i l ih =>
    obtain ⟨hr, hp⟩ := ih (s.resetPortTraffic i)
    refine ⟨hr.trans (resetPortTraffic_links s i j), fun h => hp ?_⟩
    rw [port_resetPortTraffic]
    by_cases hij : i = j
    · exact .inr (if_pos hij)
    · rw [if_neg hij]
      exact h.imp (fun hm => (List.mem_cons.mp hm).resolve_left (Ne.symm hij)) id

theorem resetPortTraffic_inRange {s : State} (h : s.InRange) (i : Initiator) : (s.resetPortTraffic i).InRange := by
  unfold State.resetPortTraffic
  simp only
  split
  · exact { h with }
  · exact { h with }

/-- What a traffic reset leaves of the traffic (R193). -/
theorem trafficReset_clears (s : State) : (∀ x, s.trafficReset.entry x = none) ∧ (∀ c, s.trafficReset.target.queueOf c = []) ∧
    (∀ i, (s.trafficReset.port i).queue = []) ∧ (∀ i, s.trafficReset.responsesTo i = s.responsesTo i) := by
  have hports := fun i => (foldl_resetPortTraffic initiators s i).2 (.inl (mem_initiators i))
  have hsent := fun i => (foldl_resetPortTraffic initiators s i).1
  unfold State.trafficReset
  generalize initiators.foldl State.resetPortTraffic s = t at hports hsent
  have htracker : t.clearTraffic.resetTarget.tracker = Vector.replicate 64 none := by
    unfold State.resetTarget
    simp only
    split <;> rfl
  have htarget : ∀ c, t.clearTraffic.resetTarget.target.queueOf c = [] := fun c => by
    unfold State.resetTarget
    simp only
    split <;> cases c <;> rfl
  have hport : t.clearTraffic.resetTarget.ports = t.ports := by
    unfold State.resetTarget
    simp only
    split <;> rfl
  have hlinks : t.clearTraffic.resetTarget.links.toInitiator = t.links.toInitiator := by
    unfold State.resetTarget
    simp only
    split <;> rfl
  refine ⟨fun x => ?_, htarget, fun i => ?_, fun i => ?_⟩
  · simp [State.entry, htracker]
  · rw [port_of_ports hport, hports]
    rfl
  · rw [← hsent]
    simp only [State.responsesTo, State.sentTo, hlinks]

theorem trafficReset_inRange {s : State} (h : s.InRange) : s.trafficReset.InRange := by
  have hfold : ∀ (l : List Initiator) (t : State), t.InRange → (l.foldl State.resetPortTraffic t).InRange := by
    intro l
    induction l with
    | nil => exact fun _ ht => ht
    | cons i l ih => exact fun t ht => ih _ (resetPortTraffic_inRange ht i)
  have ht := hfold initiators s h
  unfold State.trafficReset
  generalize initiators.foldl State.resetPortTraffic s = t at ht
  have hclear : t.clearTraffic.InRange := { ht with
    regulation := by
      obtain ⟨-, hp, -, -⟩ := ht.regulation
      refine ⟨fun i => ?_, hp, ?_, ?_⟩
      · simp only [State.clearTraffic, ofFn_get]
        exact (ht.profiles i).2.1.trans (by omega)
      · simp [State.clearTraffic]
      · simp only [State.clearTraffic]
        split
        · simp
        · simp; omega }
  unfold State.resetTarget
  simp only
  have htarget : TargetPort.InRange { t.clearTraffic.target with
      state := .offline, credits := 0, highQueue := [], normalQueue := [], consecutiveHigh := 0, resyncTimer := none } := by
    obtain ⟨-, hw1, hw2, -, -⟩ := hclear.target
    exact ⟨Nat.zero_le _, hw1, hw2, by simp, by simp⟩
  split
  · exact { hclear with target := htarget }
  · exact { hclear with target := htarget }

theorem commandTrafficReset_moves (s : State) (hl : ∀ i, lost i) : Moves lost s s.commandTrafficReset := by
  obtain ⟨hx, hq, hp, -⟩ := trafficReset_clears s
  exact Moves.calm (.single (.clear hl hx hq hp trafficReset_inRange)) (complete_calm lost _ _ _)

theorem reset_inRange : State.reset.InRange := (inRange_iff _).mpr (by decide +kernel)

theorem deviceReset_moves (s : State) (hl : ∀ i, lost i) : Moves lost s s.deviceReset :=
  .single (.clear hl (fun x => by simp [State.entry, State.deviceReset, State.reset]) (fun c => by cases c <;> rfl)
    (fun i => by simp [State.port, State.deviceReset, State.reset, Port.reset]) fun _ => { reset_inRange with })

/-! ### The command register and the register window (R187, R190) -/

theorem ite_moves {p : Prop} [Decidable p] {s a b : State} (ha : p → Moves lost s a) (hb : ¬p → Moves lost s b) :
    Moves lost s (if p then a else b) := by
  split
  · exact ha ‹p›
  · exact hb ‹¬p›

/-- A command of the command register: only TRAFFIC_RESET loses requests (R190, R193). -/
theorem writeCommand_moves (s : State) (code : Word) (hl : code = Config.codeTrafficReset → ∀ i, lost i) :
    Moves lost s (s.writeCommand code) := by
  unfold State.writeCommand
  refine ite_moves lost (fun _ => withArgument_moves lost s _ _ _ fun p => (enablePort_calm lost s p).moves) fun _ => ?_
  refine ite_moves lost (fun _ => withArgument_moves lost s _ _ _ fun p => (drainPort_calm lost s p).moves) fun _ => ?_
  refine ite_moves lost (fun _ => withArgument_moves lost s _ _ _ fun p => fencePort_moves lost s p) fun _ => ?_
  refine ite_moves lost (fun _ => commandResync_moves lost s) fun _ => ?_
  refine ite_moves lost (fun _ => commandOffline_moves lost s) fun _ => ?_
  refine ite_moves lost (fun _ => withArgument_moves lost s _ _ _ fun w => (commitWindow_calm lost s w).moves) fun _ => ?_
  refine ite_moves lost (fun _ => withArgument_moves lost s _ _ _ fun _ => (management_calm lost s _).moves) fun _ => ?_
  refine ite_moves lost (fun _ => withArgument_moves lost s _ _ _ fun i => (commitProfile_calm lost s i).moves) fun _ => ?_
  refine ite_moves lost (fun _ => withArgument_moves lost s _ _ _ fun _ => (management_calm lost s _).moves) fun _ => ?_
  refine ite_moves lost (fun _ => (commandWriteEdges_calm lost s).moves) fun _ => ?_
  refine ite_moves lost (fun _ => withArgument_moves lost s _ _ _ fun i => (reloadBudget_calm lost s i).moves) fun _ => ?_
  refine ite_moves lost (fun _ => withArgument_moves lost s _ _ _ fun i => (clearBins_calm lost s i).moves) fun _ => ?_
  refine ite_moves lost (fun _ => ((setBank_calm lost s _).trans (complete_calm lost _ _ _)).moves) fun _ => ?_
  refine ite_moves lost (fun _ => ((setBank_calm lost s _).trans (complete_calm lost _ _ _)).moves) fun _ => ?_
  refine ite_moves lost (fun _ => ((clearCounters_calm lost s).trans (complete_calm lost _ _ _)).moves) fun _ => ?_
  refine ite_moves lost (fun _ => withArgument_moves lost s _ _ _ fun _ => (management_calm lost s _).moves) fun _ => ?_
  refine ite_moves lost (fun _ => (commandFaultPop_calm lost s).moves) fun _ => ?_
  refine ite_moves lost (fun hc => commandTrafficReset_moves lost s (hl hc)) fun _ => ?_
  exact (complete_calm lost s _ _).moves

theorem writeCounterWord_calm (s : State) (c : CounterIdx) (k : Nat) (v : Word) : Calm lost s (s.writeCounterWord c k v) := by
  unfold State.writeCounterWord
  split <;> exact modCounter_calm lost s c _

/-- A write of any address (R187). -/
theorem writeWord_moves (s : State) (a : BitVec 8) (v : Word) (hl : a.toNat = 0x14 → v = Config.codeTrafficReset → ∀ i, lost i) :
    Moves lost s (s.writeWord a v) := by
  unfold State.writeWord
  refine ite_moves lost (fun _ => (writePrescaler_calm lost s v).moves) fun _ => ?_
  refine ite_moves lost (fun _ => (writePeriod_calm lost s v).moves) fun _ => ?_
  refine ite_moves lost (fun _ => (writeDetachLimit_calm lost s v).moves) fun _ => ?_
  refine ite_moves lost (fun _ => (writeResyncWait_calm lost s v).moves) fun _ => ?_
  refine ite_moves lost (fun _ => (interrupts_calm lost s _).moves) fun _ => ?_
  refine ite_moves lost (fun _ => (interrupts_calm lost s _).moves) fun _ => ?_
  refine ite_moves lost (fun ha => writeCommand_moves lost s v (hl ha)) fun _ => ?_
  refine ite_moves lost (fun _ => (management_calm lost s _).moves) fun _ => ?_
  refine ite_moves lost (fun _ => (management_calm lost s _).moves) fun _ => ?_
  refine ite_moves lost (fun _ => (writeCounterWord_calm lost s _ _ v).moves) fun _ => ?_
  refine ite_moves lost (fun _ => (clearOverflows_calm lost s v).moves) fun _ => ?_
  refine ite_moves lost (fun _ => (management_calm lost s _).moves) fun _ => ?_
  exact .refl

/-! ### Every command and every step -/

/-- The initiators whose requests a command may take, or drop unanswered. -/
def lossesOf : Instr → Initiator → Prop
  | .request i _ => (· = i)
  | .linkReset i => (· = i)
  | .trafficReset => fun _ => True
  | .deviceReset => fun _ => True
  | .unassignedCommand code => fun _ => code = Config.codeTrafficReset
  | .registerWrite a v => fun _ => a.toNat = 0x14 ∧ v = Config.codeTrafficReset
  | _ => fun _ => False

theorem outOfReset_moves (s : State) (f : State → State) (h : Moves lost s (f s)) : Moves lost s (s.outOfReset f) := by
  unfold State.outOfReset
  exact ite_moves lost (fun _ => h) fun _ => .refl

variable {lost}

/-- A command that acts out of reset alone is moves where its act is. -/
theorem moves_of_next {f : State → State} {s t : State} (h : Moves lost s (f s))
    (he : (.next (s.outOfReset f) : Host.Outcome State Fault Refusal) = .next t) : Moves lost s t := by
  cases he
  exact outOfReset_moves lost s f h

/-- A row of the command register, other than TRAFFIC_RESET, loses no request. -/
theorem moves_of_commandOfCode {s t : State} (code : Word) (hc : code ≠ Config.codeTrafficReset)
    (he : exec (commandOfCode code) s = .next t) : Moves lost s t := by
  rw [exec_commandOfCode] at he
  exact moves_of_next (f := fun t => t.writeCommand code) (writeCommand_moves lost s code fun h => absurd h hc) he

/-- Every command is a sequence of moves. -/
theorem exec_moves {c : Instr} {s t : State} (h : exec c s = .next t) : Moves (lossesOf c) s t := by
  cases c with
  | request i r => exact moves_of_next (arrive_moves (lossesOf (.request i r)) s i r rfl) h
  | linkReset i => exact moves_of_next (linkReset_moves (lossesOf (.linkReset i)) s i rfl) h
  | undefinedKindMessage l k => exact moves_of_next (takeUndefined_calm _ s l).moves h
  | targetResponse r => exact moves_of_next (takeResponse_moves _ s r) h
  | targetCredit n => exact moves_of_next (takeCredit_calm _ s n).moves h
  | resyncAck n => exact moves_of_next (takeAck_moves _ s n) h
  | resetNotice n => exact moves_of_next (takeResetNotice_moves _ s n) h
  | tick => exact moves_of_next (tick_moves _ s) h
  | expiryClaim => exact moves_of_next (takeExpiry_moves _ s) h
  | periodExpiry => exact moves_of_next (takePeriodExpiry_calm _ s).moves h
  | resyncWaitExpiry => exact moves_of_next (takeResyncWaitExpiry_moves _ s) h
  | grant => exact moves_of_next (grant_moves _ s) h
  | issue => exact moves_of_next (issue_moves _ s) h
  | drainCompletion p => exact moves_of_next (takeZeroNotice_calm _ s p).moves h
  | deviceReset => cases h; exact deviceReset_moves _ s fun _ => trivial
  | portEnable => exact moves_of_commandOfCode Config.codePortEnable (by decide) h
  | portDrain => exact moves_of_commandOfCode Config.codePortDrain (by decide) h
  | portFence => exact moves_of_commandOfCode Config.codePortFence (by decide) h
  | targetResync => exact moves_of_commandOfCode Config.codeTargetResync (by decide) h
  | targetOffline => exact moves_of_commandOfCode Config.codeTargetOffline (by decide) h
  | writeWindow => exact moves_of_commandOfCode Config.codeWriteWindow (by decide) h
  | readWindow => exact moves_of_commandOfCode Config.codeReadWindow (by decide) h
  | writeProfile => exact moves_of_commandOfCode Config.codeWriteProfile (by decide) h
  | readProfile => exact moves_of_commandOfCode Config.codeReadProfile (by decide) h
  | writeEdges => exact moves_of_commandOfCode Config.codeWriteEdges (by decide) h
  | budgetReload => exact moves_of_commandOfCode Config.codeBudgetReload (by decide) h
  | histClear => exact moves_of_commandOfCode Config.codeHistClear (by decide) h
  | counterFreeze => exact moves_of_commandOfCode Config.codeCounterFreeze (by decide) h
  | counterUnfreeze => exact moves_of_commandOfCode Config.codeCounterUnfreeze (by decide) h
  | counterClear => exact moves_of_commandOfCode Config.codeCounterClear (by decide) h
  | trackerSnapshot => exact moves_of_commandOfCode Config.codeTrackerSnapshot (by decide) h
  | faultPop => exact moves_of_commandOfCode Config.codeFaultPop (by decide) h
  | trafficReset => exact moves_of_next (commandTrafficReset_moves _ s fun _ => trivial) h
  | unassignedCommand code => exact moves_of_next (writeCommand_moves (lossesOf (.unassignedCommand code)) s code fun hc _ => hc) h
  | prescalerWrite v => exact moves_of_next (writePrescaler_calm _ s v).moves h
  | regulationPeriodWrite v => exact moves_of_next (writePeriod_calm _ s v).moves h
  | detachLimitWrite v => exact moves_of_next (writeDetachLimit_calm _ s v).moves h
  | resyncWaitWrite v => exact moves_of_next (writeResyncWait_calm _ s v).moves h
  | tickCountLowRead => exact moves_of_next (readTickLow_calm _ s).moves h
  | interruptFlagsWrite v => exact moves_of_next (f := fun t => t.clearFlags v) (interrupts_calm _ s _).moves h
  | interruptEnablesWrite v => exact moves_of_next (f := fun t => t.writeEnables v) (interrupts_calm _ s _).moves h
  | counterValueLowRead c => exact moves_of_next (readCounterLow_calm _ s c).moves h
  | counterValueHighWrite c v => exact moves_of_next (f := fun t => t.writeCounterHigh c v) (modCounter_calm _ s c _).moves h
  | counterValueLowWrite c v => exact moves_of_next (f := fun t => t.writeCounterLow c v) (modCounter_calm _ s c _).moves h
  | counterControlWrite c w v => exact moves_of_next (f := fun t => t.writeControl c w v) (modCounter_calm _ s c _).moves h
  | counterOverflowFlagsWrite v => exact moves_of_next (clearOverflows_calm _ s v).moves h
  | histogramIndexWrite v => exact moves_of_next (f := fun t => t.writeHistogramIndex v) (management_calm _ s _).moves h
  | stagingWrite k v => exact moves_of_next (f := fun t => t.setStaged k v) (management_calm _ s _).moves h
  | registerWrite a v => exact moves_of_next (writeWord_moves _ s a v fun ha hv _ => ⟨ha, hv⟩) h

/-- Every step is a sequence of moves. -/
theorem step_moves {s t : State} (h : step s = .next t) : Moves (fun _ => True) s t := by
  unfold step at h
  split at h
  · exact moves_of_next (countRefclk_moves _ s) h
  · rename_i c rest _
    exact (pending_calm _ s rest).moves.trans ((exec_moves h).mono fun _ _ => trivial)

/-! ### O55, O58 -/

/-- Settles O55: every move keeps the tracker's laws and a quiet OFFLINE, so every step does. -/
theorem trackerLawsAreKept : Obligations.TrackerLawsAreKept := by
  rintro s t ⟨hlaws, hquiet⟩ hstep
  have hmoves := step_moves hstep
  have hlaws' : t.TrackerLaws := hmoves.keeps (fun _ _ hm => hm.trackerLaws) hlaws
  have hquiet' : t.OfflineDetached := hmoves.keeps (fun _ _ hm => hm.offlineDetached) ((offlineIsQuiet_iff hlaws).mp hquiet)
  exact ⟨hlaws', (offlineIsQuiet_iff hlaws').mpr hquiet'⟩

/-- Settles O58: every move keeps the bounds, so every step does. -/
theorem boundsAreKept : Obligations.BoundsAreKept := by
  rintro s t ⟨hconfig, hranges, hqueued, hentries⟩ hstep
  obtain ⟨hrange, hqueued', hentries'⟩ : t.Bounded :=
    (step_moves hstep).keeps (fun _ _ hm => hm.bounded) ⟨(inRange_iff s).mpr ⟨hconfig, hranges⟩, hqueued, hentries⟩
  obtain ⟨hconfig', hranges'⟩ := (inRange_iff t).mp hrange
  exact ⟨hconfig', hranges', hqueued', hentries'⟩

end Sys2Proof.Machine
end

section
/-!
What the counters gain from reports while no add can freeze the bank (R157, R162, R164).
-/

namespace Sys2Proof.Machine

/-- From `s` to `t` counter `c` gains `g c`, and what decides whether it takes a report stays. -/
structure Tallies (s t : State) (g : CounterIdx → Nat) : Prop where
  bank : t.monitor.bank = s.monitor.bank
  control : ∀ c, (t.counter c).control = (s.counter c).control
  value : ∀ c, (t.counter c).value = (s.counter c).value + BitVec.ofNat 32 (g c)

namespace Tallies

theorem of_monitor {s t : State} (h : t.monitor = s.monitor) : Tallies s t fun _ => 0 where
  bank := by rw [h]
  control c := by simp only [State.counter, h]
  value c := by simp only [State.counter, h, BitVec.add_zero]

theorem trans {s t u : State} {g g' : CounterIdx → Nat} (h : Tallies s t g) (k : Tallies t u g') :
    Tallies s u fun c => g c + g' c where
  bank := k.bank.trans h.bank
  control c := (k.control c).trans (h.control c)
  value c := by rw [k.value, h.value, BitVec.ofNat_add, BitVec.add_assoc]

theorem congr {s t : State} {g g' : CounterIdx → Nat} (h : Tallies s t g) (hg : ∀ c, g c = g' c) : Tallies s t g' :=
  { h with value := fun c => by rw [← hg]; exact h.value c }

end Tallies

theorem mayFreeze_eq_false_iff (s : State) : s.monitor.mayFreeze = false ↔
    (s.monitor.bank = .running → ∀ c, (s.counter c).control.enable = true → (s.counter c).control.freezeOnOverflow = false) := by
  have hany : (s.monitor.counters.toList.any fun c => c.control.enable && c.control.freezeOnOverflow) = false ↔
      ∀ c, (s.counter c).control.enable = true → (s.counter c).control.freezeOnOverflow = false := by
    rw [List.any_eq_false]
    constructor
    · intro h c he
      have hc : s.counter c ∈ s.monitor.counters.toList := Vector.mem_toList_iff.mpr (Vector.getElem_mem _)
      simpa [he] using h _ hc
    · intro h k hk
      obtain ⟨n, hn, rfl⟩ := Vector.mem_iff_getElem.mp (Vector.mem_toList_iff.mp hk)
      have hc := h ⟨n, hn⟩
      simpa [State.counter] using hc
  unfold Monitor.mayFreeze
  cases hb : s.monitor.bank
  · simpa using hany
  · simp

theorem Tallies.mayFreeze {s t : State} {g : CounterIdx → Nat} (h : Tallies s t g) (hs : s.monitor.mayFreeze = false) :
    t.monitor.mayFreeze = false := by
  rw [mayFreeze_eq_false_iff] at *
  simpa only [h.bank, h.control] using hs

/-- A control takes reports only while it is enabled (R156). -/
theorem enable_of_takes {c : Control} {r : Report} (h : c.takes r = true) : c.enable = true := by
  unfold Control.takes at h
  split at h
  · rename_i hc
    unfold Control.counting at hc
    split at hc
    · split at hc
      · rename_i he; exact (Bool.and_eq_true_iff.mp he).1
      · cases hc
    · cases hc
  · cases h

/-- An add to a counter that cannot freeze the bank (R162). -/
theorem addTo_tallies (s : State) (c : CounterIdx) (n : Nat) (h : (s.counter c).control.freezeOnOverflow = false) :
    Tallies s (s.addTo c n) fun d => if c = d then n else 0 := by
  have hsum : BitVec.ofNat 32 ((s.counter c).value.toNat + n) = (s.counter c).value + BitVec.ofNat 32 n := by
    rw [BitVec.ofNat_add, BitVec.ofNat_toNat, BitVec.setWidth_eq]
  have hset : ∀ f : Counter → Counter, (∀ k, (f k).control = k.control) →
      (f (s.counter c)).value = (s.counter c).value + BitVec.ofNat 32 n → Tallies s (s.modCounter c f) fun d => if c = d then n else 0 :=
    fun f hf hv =>
      { bank := rfl
        control := fun d => by
          rw [counter_modCounter]
          split
          · exact hf _
          · rfl
        value := fun d => by
          rw [counter_modCounter]
          split
          · rename_i hcd; subst hcd; exact hv
          · simp }
  unfold State.addTo
  simp only [h, Bool.false_eq_true, if_false]
  split
  · exact hset _ (fun _ => rfl) hsum
  · split
    · exact (hset (fun k => { k with value := BitVec.ofNat 32 ((s.counter c).value.toNat + n), overflow := true }) (fun _ => rfl) hsum).trans
        (Tallies.of_monitor (State.raise_monitor ..)) |>.congr fun _ => Nat.add_zero _
    · exact hset _ (fun _ => rfl) hsum

/-- What counter `c` takes of the reports `rs` (R157). -/
def State.takenBy (s : State) (rs : List Report) (c : CounterIdx) : Nat :=
  if s.monitor.bank = .running then (rs.map fun r => if (s.counter c).control.takes r then r.amount else 0).sum else 0

theorem Tallies.takenBy {s t : State} {g : CounterIdx → Nat} (h : Tallies s t g) (rs : List Report) (c : CounterIdx) :
    t.takenBy rs c = s.takenBy rs c := by
  simp only [State.takenBy, h.bank, h.control]

theorem takenBy_append (s : State) (rs rs' : List Report) (c : CounterIdx) :
    s.takenBy (rs ++ rs') c = s.takenBy rs c + s.takenBy rs' c := by
  unfold State.takenBy
  split
  · rw [List.map_append, List.sum_append]
  · rfl

theorem takenBy_nil (s : State) (c : CounterIdx) : s.takenBy [] c = 0 := by
  unfold State.takenBy
  split <;> rfl

theorem offer_tallies (s : State) (c : CounterIdx) (r : Report) (h : s.monitor.mayFreeze = false) :
    Tallies s (s.offer c r) fun d => if c = d then s.takenBy [r] d else 0 := by
  unfold State.offer
  split
  · rename_i hc
    obtain ⟨hb, ht⟩ := Bool.and_eq_true_iff.mp hc
    have hb : s.monitor.bank = .running := by simpa using hb
    refine (addTo_tallies s c r.amount ((mayFreeze_eq_false_iff s).mp h hb c (enable_of_takes ht))).congr fun d => ?_
    by_cases hcd : c = d
    · subst hcd; simp [State.takenBy, hb, ht]
    · simp [hcd]
  · rename_i hc
    refine (Tallies.of_monitor rfl).congr fun d => ?_
    by_cases hcd : c = d
    · subst hcd
      by_cases hb : s.monitor.bank = .running
      · have : (s.counter c).control.takes r = false := by simpa [hb] using hc
        simp [State.takenBy, this]
      · simp [State.takenBy, hb]
    · simp [hcd]

theorem foldl_offer_tallies (c : CounterIdx) (rs : List Report) : ∀ s : State, s.monitor.mayFreeze = false →
    Tallies s (rs.foldl (fun t r => t.offer c r) s) fun d => if c = d then s.takenBy rs d else 0 := by
  induction rs with
  | nil => exact fun s _ => (Tallies.of_monitor rfl).congr fun d => by simp [takenBy_nil]
  | cons r rs ih =>
    intro s h
    have hr := offer_tallies s c r h
    refine (hr.trans (ih _ (hr.mayFreeze h))).congr fun d => ?_
    rw [hr.takenBy, show r :: rs = [r] ++ rs from rfl, takenBy_append]
    split <;> rfl

/-- Reports without a latency, while no add can freeze the bank: each counter gains what it takes of them. -/
theorem report_tallies (s : State) (rs : List Report) (h : s.monitor.mayFreeze = false) : Tallies s (s.report rs) (s.takenBy rs) := by
  have fold : ∀ (l : List (Option CounterIdx)) (t : State), t.monitor.mayFreeze = false →
      Tallies t (l.foldl (fun t k => match k with
        | some c => rs.foldl (fun t r => t.offer c r) t
        | none => t) t) fun d => l.count (some d) * t.takenBy rs d := by
    intro l
    induction l with
    | nil => exact fun t _ => (Tallies.of_monitor rfl).congr fun d => by simp
    | cons k l ih =>
      intro t ht
      cases k with
      | none => exact (ih t ht).congr fun d => by simp
      | some c =>
        have hc := foldl_offer_tallies c rs t ht
        refine (hc.trans (ih _ (hc.mayFreeze ht))).congr fun d => ?_
        rw [hc.takenBy, List.count_cons]
        by_cases hcd : c = d
        · simp [hcd, Nat.add_mul, Nat.add_comm]
        · simp [hcd]
  have honce : ∀ d : CounterIdx, monitorItems.count (some d) = 1 := by decide
  have hall := (fold monitorItems s h).congr fun d => by rw [honce, Nat.one_mul]
  unfold State.report
  rw [inAnyOrder_of_calm _ _ h]
  exact hall

theorem counts_of_tallies {s t : State} {rs : List Report} (h : s.monitor.mayFreeze = false → Tallies s t (s.takenBy rs)) :
    s.Counts t rs := fun hs c => (h hs).value c

end Sys2Proof.Machine
end

section
/-!
What the check of heads does exactly (R53, R57, R60, R61): each port and its link, BUDGET_WAIT and the REFUSED reports.
-/

namespace Sys2Proof.Machine

/-! ### The check reads only the verdicts -/

section
variable {s t : State} (h : ∀ i r, t.verdict i r = s.verdict i r)
include h

theorem refusedFront_congr (i : Initiator) (q : List Request) : t.refusedFront i q = s.refusedFront i q := by
  induction q with
  | nil => rfl
  | cons r q ih => simp only [State.refusedFront, h, ih]

theorem statusOf_congr (i : Initiator) (q : List Request) : t.statusOf i q = s.statusOf i q := by
  cases q with
  | nil => rfl
  | cons r q => simp only [State.statusOf, h]

theorem afterCheck_congr (i : Initiator) (v : PortView) : t.afterCheck i v = s.afterCheck i v := by
  simp only [State.afterCheck, refusedFront_congr h, statusOf_congr h]

theorem refusalReports_congr (i : Initiator) (v : PortView) : t.refusalReports i v = s.refusalReports i v := by
  simp only [State.refusalReports, refusedFront_congr h]

theorem entersBudgetWait_congr (i : Initiator) (v : PortView) : t.entersBudgetWait i v = s.entersBudgetWait i v := by
  simp only [State.entersBudgetWait, refusedFront_congr h, afterCheck_congr h]

end

/-! ### One port's view -/

theorem view_ext {s t : State} {i : Initiator} (hq : (t.port i).queue = (s.port i).queue) (hg : (t.port i).granted = (s.port i).granted)
    (hh : t.head i = s.head i) (hs : t.sentTo i = s.sentTo i) : t.view i = s.view i := by
  simp only [State.view, hq, hg, hh, hs]

theorem view_of_onlyMonitor {s t : State} (h : OnlyMonitor s t) (i : Initiator) : t.view i = s.view i := by
  have hp := port_of_ports h.ports i
  exact view_ext (by rw [hp]) (by rw [hp]) (by simp only [State.head, h.admission]) (by simp only [State.sentTo, h.links])

@[simp] theorem view_raise (s : State) (c : Cause) (i : Initiator) : (s.raise c).view i = s.view i := rfl

theorem view_setHead (s : State) (i j : Initiator) (h : HeadStatus) :
    (s.setHead i h).view j = if i = j then { s.view j with status := h } else s.view j := by
  simp only [State.view, port_setHead, head_setHead, State.sentTo, State.setHead_links]
  split <;> rfl

/-- The refused head leaves its queue, and its answer and credit go out (R61). -/
theorem view_refuseHead (s : State) (i j : Initiator) (r : Request) (rest : List Request) (why : HeadRefusal) :
    (s.refuseHead i r rest why).view j = if i = j then
      { queue := rest, granted := (s.port j).granted + 1, status := s.head j
        sent := s.sentTo j ++ [.response r.tag why.status [], .credit 1] } else s.view j := by
  unfold State.refuseHead
  rw [view_of_onlyMonitor (report_onlyMonitor _ _ none)]
  simp only [State.view, port_returnCredit, sentTo_returnCredit, sentTo_send, port_of_ports (State.send_ports ..), port_modPort]
  have hhead : State.head (State.returnCredit ((s.modPort i fun p => { p with queue := rest }).send i (.response r.tag why.status [])) i) j =
      s.head j := rfl
  rw [hhead]
  split
  · simp only [State.sentTo, State.modPort_links, List.append_assoc, List.cons_append, List.nil_append]
  · simp only [State.sentTo, State.modPort_links]

/-- The same port with another head status. -/
def PortView.withStatus (v : PortView) (h : HeadStatus) : PortView := { v with status := h }

@[simp] theorem PortView.withStatus_queue (v : PortView) (h : HeadStatus) : (v.withStatus h).queue = v.queue := rfl
@[simp] theorem PortView.withStatus_status (v : PortView) (h : HeadStatus) : (v.withStatus h).status = h := rfl

@[simp] theorem view_queue (s : State) (i : Initiator) : (s.view i).queue = (s.port i).queue := rfl

/-- The check does not read the status it replaces (R57 reads it for BUDGET_WAIT alone). -/
@[simp] theorem afterCheck_withStatus (s : State) (i : Initiator) (v : PortView) (h : HeadStatus) :
    s.afterCheck i (v.withStatus h) = s.afterCheck i v := rfl

@[simp] theorem refusalReports_withStatus (s : State) (i : Initiator) (v : PortView) (h : HeadStatus) :
    s.refusalReports i (v.withStatus h) = s.refusalReports i v := rfl

/-- A head that is not refused stays, with its status. -/
theorem afterCheck_of_stays {s : State} {i : Initiator} {v : PortView} (hr : s.refusedFront i v.queue = []) :
    s.afterCheck i v = v.withStatus (s.statusOf i v.queue) := by
  simp [State.afterCheck, hr, PortView.withStatus]

/-- The check of a port whose head is refused goes on with the port as the refusal leaves it. -/
theorem afterCheck_of_refused {s : State} {i : Initiator} {v w : PortView} {r : Request} {rest : List Request} {why : HeadRefusal}
    (hv : v.queue = r :: rest) (hr : s.verdict i r = .refuse why) (hq : w.queue = rest) (hg : w.granted = v.granted + 1)
    (hs : w.sent = v.sent ++ [.response r.tag why.status [], .credit 1]) : s.afterCheck i w = s.afterCheck i v := by
  simp only [State.afterCheck, hv, hq, hg, hs, State.refusedFront, hr, List.length_cons, List.drop_succ_cons, List.flatMap_cons,
    List.append_assoc, PortView.mk.injEq, true_and, and_true]
  exact Nat.succ_add_eq_add_succ _ _

/-- A check that begins on a new head enters BUDGET_WAIT when it ends in it. -/
theorem entersBudgetWait_eq {s : State} {i : Initiator} {v : PortView}
    (h : v.status ≠ .waiting .budget ∨ s.refusedFront i v.queue ≠ []) :
    s.entersBudgetWait i v = decide ((s.afterCheck i v).status = .waiting .budget) := by
  unfold State.entersBudgetWait
  rcases h with h | h <;> simp [h]

/-! ### The check of one queue -/

/-- What the check of port `i`, standing as `v`, does on the way from `s` to `t`. -/
structure ChecksPort (s t : State) (i : Initiator) (v : PortView) : Prop where
  self : t.view i = s.afterCheck i v
  other : ∀ j, i ≠ j → t.view j = s.view j
  budgetWait : t.flag .budgetWait = (s.flag .budgetWait || s.entersBudgetWait i v)
  tallies : s.monitor.mayFreeze = false → Tallies s t (s.takenBy (s.refusalReports i v))

/-- A head that is not refused has its status set, BUDGET_WAIT raised where it comes to wait for BUDGET, and nothing else changes. -/
theorem setHead_checksPort (s : State) (i : Initiator) (prev h : HeadStatus) (hr : s.refusedFront i (s.port i).queue = [])
    (hs : s.statusOf i (s.port i).queue = h) :
    ChecksPort s (if h = .waiting .budget ∧ prev ≠ .waiting .budget then (s.setHead i h).raise .budgetWait else s.setHead i h) i
      ((s.view i).withStatus prev) := by
  have hafter : s.afterCheck i ((s.view i).withStatus prev) = (s.view i).withStatus h := by
    rw [afterCheck_withStatus, afterCheck_of_stays hr]
    exact congrArg _ hs
  have hreports : s.refusalReports i ((s.view i).withStatus prev) = [] := by simp [State.refusalReports, hr]
  have henters : s.entersBudgetWait i ((s.view i).withStatus prev) = decide (h = .waiting .budget ∧ prev ≠ .waiting .budget) := by
    simp only [State.entersBudgetWait, hafter, PortView.withStatus_status, PortView.withStatus_queue, view_queue, hr]
    by_cases hp : prev = .waiting .budget <;> simp [hp]
  have hview : ∀ j, (if h = .waiting .budget ∧ prev ≠ .waiting .budget then (s.setHead i h).raise .budgetWait else s.setHead i h).view j =
      if i = j then (s.view j).withStatus h else s.view j := fun j => by
    rw [PortView.withStatus, ← view_setHead]
    split
    · exact view_raise _ _ j
    · rfl
  refine ⟨?_, fun j hij => ?_, ?_, fun _ => (Tallies.of_monitor ?_).congr fun c => ?_⟩
  · rw [hview, if_pos rfl, hafter]
  · rw [hview, if_neg hij]
  · rw [henters]
    split
    · rename_i hb
      rw [flag_raise]
      simp [hb]
    · rename_i hb
      rw [decide_eq_false hb, Bool.or_false]
      rfl
  · split <;> rfl
  · rw [hreports, takenBy_nil]

theorem refuseHead_tallies (s : State) (i : Initiator) (r : Request) (rest : List Request) (why : HeadRefusal)
    (h : s.monitor.mayFreeze = false) : Tallies s (s.refuseHead i r rest why)
      (s.takenBy [{ event := .refused, initiator := i, qualifier := why.qualifier }]) := by
  unfold State.refuseHead
  have hsame : Tallies s (((s.modPort i fun p => { p with queue := rest }).send i (.response r.tag why.status [])).returnCredit i)
      fun _ => 0 := Tallies.of_monitor rfl
  refine (hsame.trans (report_tallies _ _ (hsame.mayFreeze h))).congr fun c => ?_
  rw [hsame.takenBy, Nat.zero_add]

theorem refuseHead_budgetWait (s : State) (i : Initiator) (r : Request) (rest : List Request) (why : HeadRefusal) :
    (s.refuseHead i r rest why).flag .budgetWait = s.flag .budgetWait :=
  (report_onlyMonitor _ _ none).flag .budgetWait (by simp)

/-- The check of a queue from its head (R53, R57, R61). -/
theorem checkQueue_checksPort (i : Initiator) (q : List Request) : ∀ (prev : HeadStatus) (s : State), (s.port i).queue = q →
    ChecksPort s (State.checkQueue i prev q s) i ((s.view i).withStatus prev) := by
  induction q with
  | nil =>
    intro prev s hq
    have h := setHead_checksPort s i prev .noHead (by rw [hq]; rfl) (by rw [hq]; rfl)
    rw [if_neg (by rintro ⟨h, -⟩; cases h)] at h
    exact h
  | cons r rest ih =>
    intro prev s hq
    unfold State.checkQueue
    cases hv : s.verdict i r with
    | refuse why =>
      simp only
      generalize hu : s.refuseHead i r rest why = u
      have hview : u.view i = _ := hu ▸ view_refuseHead s i i r rest why
      rw [if_pos rfl] at hview
      have hcongr : ∀ j q, u.verdict j q = s.verdict j q := hu ▸ (refuseHead_onlyHeads s i r rest why).verdict
      have hfront : s.refusedFront i (s.port i).queue = (r, why) :: s.refusedFront i rest := by
        rw [hq]; simp only [State.refusedFront, hv]
      have hrefused : s.refusedFront i ((s.view i).withStatus prev).queue ≠ [] := by
        rw [PortView.withStatus_queue, view_queue, hfront]
        exact List.cons_ne_nil _ _
      have hafter : s.afterCheck i (u.view i) = s.afterCheck i (s.view i) :=
        afterCheck_of_refused hq hv (by rw [hview]) (by rw [hview]; rfl) (by rw [hview]; rfl)
      have hreports : s.refusalReports i (s.view i) =
          [{ event := .refused, initiator := i, qualifier := why.qualifier }] ++ s.refusalReports i (u.view i) := by
        rw [State.refusalReports, State.refusalReports, view_queue, hfront, hview]
        rfl
      obtain ⟨hself, hother, hflag, htally⟩ := ih .noHead u (congrArg PortView.queue hview)
      refine ⟨?_, fun j hij => ?_, ?_, fun hm => ?_⟩
      · rw [hself, afterCheck_congr hcongr, afterCheck_withStatus, afterCheck_withStatus, hafter]
      · rw [hother j hij, ← hu, view_refuseHead, if_neg hij]
      · rw [hflag, entersBudgetWait_congr hcongr, ← hu, refuseHead_budgetWait, hu]
        rw [entersBudgetWait_eq (.inl HeadStatus.noConfusion), entersBudgetWait_eq (.inr hrefused), afterCheck_withStatus, afterCheck_withStatus, hafter]
      · have htu : Tallies s u _ := hu ▸ refuseHead_tallies s i r rest why hm
        refine (htu.trans (htally (htu.mayFreeze hm))).congr fun c => ?_
        rw [htu.takenBy, refusalReports_congr hcongr, refusalReports_withStatus, refusalReports_withStatus, hreports, takenBy_append]
    | wait reason =>
      have hr : s.refusedFront i (s.port i).queue = [] := by rw [hq]; simp only [State.refusedFront, hv]
      have hs : s.statusOf i (s.port i).queue = .waiting reason := by rw [hq]; simp only [State.statusOf, hv]
      have h := setHead_checksPort s i prev (.waiting reason) hr hs
      simpa only [HeadStatus.waiting.injEq] using h
    | pass =>
      have hr : s.refusedFront i (s.port i).queue = [] := by rw [hq]; simp only [State.refusedFront, hv]
      have hs : s.statusOf i (s.port i).queue = .eligible := by rw [hq]; simp only [State.statusOf, hv]
      have h := setHead_checksPort s i prev .eligible hr hs
      rw [if_neg (by rintro ⟨h, -⟩; cases h)] at h
      exact h

/-! ### The check of every head (R60) -/

/-- What the re-check of the ports of a list does on the way from `s` to `t`. -/
structure ChecksPorts (s t : State) (l : List Initiator) : Prop where
  view : ∀ j, t.view j = if j ∈ l ∧ s.head j ≠ .noHead then s.afterCheck j (s.view j) else s.view j
  budgetWait : t.flag .budgetWait =
    (s.flag .budgetWait || l.any fun i => decide (s.head i ≠ .noHead) && s.entersBudgetWait i (s.view i))
  tallies : s.monitor.mayFreeze = false →
    Tallies s t (s.takenBy (l.flatMap fun i => if s.head i ≠ .noHead then s.refusalReports i (s.view i) else []))

theorem recheckOne_checksPorts (s : State) (i : Initiator) : ChecksPorts s (s.recheckOne i) [i] := by
  unfold State.recheckOne
  split
  · rename_i h
    refine ⟨fun j => ?_, ?_, fun _ => (Tallies.of_monitor rfl).congr fun c => ?_⟩
    · rw [if_neg]
      rintro ⟨hj, hn⟩
      rw [List.mem_singleton.mp hj] at hn
      exact hn h
    · simp [h]
    · simp [h, takenBy_nil]
  · rename_i h
    obtain ⟨hself, hother, hflag, htally⟩ := checkQueue_checksPort i _ (s.head i) s rfl
    refine ⟨fun j => ?_, ?_, fun hm => (htally hm).congr fun c => ?_⟩
    · by_cases hij : i = j
      · subst hij
        rw [hself, if_pos ⟨List.mem_singleton_self i, h⟩]
        rfl
      · rw [hother j hij, if_neg]
        rintro ⟨hj, -⟩
        exact hij (List.mem_singleton.mp hj).symm
    · rw [hflag]
      simp only [List.any_cons, List.any_nil, Bool.or_false, h, ne_eq, not_false_eq_true, decide_true, Bool.true_and]
      rfl
    · simp [h]

theorem foldl_recheckOne_checksPorts (l : List Initiator) : ∀ s : State, l.Nodup → ChecksPorts s (l.foldl State.recheckOne s) l := by
  induction l with
  | nil =>
    intro s _
    exact ⟨fun j => by simp, by simp, fun _ => (Tallies.of_monitor rfl).congr fun c => by simp [takenBy_nil]⟩
  | cons i l ih =>
    intro s hl
    obtain ⟨hil, hl⟩ := List.nodup_cons.mp hl
    rw [List.foldl_cons]
    obtain ⟨hview, hflag, htally⟩ := recheckOne_checksPorts s i
    have hcongr := (recheckOne_onlyHeads s i).verdict
    obtain ⟨hview', hflag', htally'⟩ := ih (s.recheckOne i) hl
    have hsame : ∀ j ∈ l, (s.recheckOne i).view j = s.view j := fun j hj => by
      rw [hview, if_neg]
      rintro ⟨h, -⟩
      exact hil (List.mem_singleton.mp h ▸ hj)
    have hhead : ∀ j ∈ l, (s.recheckOne i).head j = s.head j := fun j hj => congrArg PortView.status (hsame j hj)
    have hany : (l.any fun j => decide ((s.recheckOne i).head j ≠ .noHead) && (s.recheckOne i).entersBudgetWait j ((s.recheckOne i).view j)) =
        l.any fun j => decide (s.head j ≠ .noHead) && s.entersBudgetWait j (s.view j) := by
      rw [Bool.eq_iff_iff, List.any_eq_true, List.any_eq_true]
      refine exists_congr fun j => and_congr_right fun hj => ?_
      rw [hsame j hj, hhead j hj, entersBudgetWait_congr hcongr]
    have hreports : (l.flatMap fun j => if (s.recheckOne i).head j ≠ .noHead then
          (s.recheckOne i).refusalReports j ((s.recheckOne i).view j) else []) =
        l.flatMap fun j => if s.head j ≠ .noHead then s.refusalReports j (s.view j) else [] := by
      refine List.flatMap_congr fun j hj => ?_
      rw [hsame j hj, hhead j hj, refusalReports_congr hcongr]
    refine ⟨fun j => ?_, ?_, fun hm => ?_⟩
    · rw [hview', afterCheck_congr hcongr]
      by_cases hj : j ∈ l
      · rw [hsame j hj, hhead j hj]
        simp [hj]
      · rw [if_neg (fun h => hj h.1), hview]
        simp [hj]
    · rw [hflag', hflag, hany, List.any_cons, List.any_cons, List.any_nil, Bool.or_false, Bool.or_assoc]
    · refine ((htally hm).trans (htally' ((htally hm).mayFreeze hm))).congr fun c => ?_
      rw [(htally hm).takenBy, hreports, List.flatMap_cons, List.flatMap_cons, List.flatMap_nil, List.append_nil, takenBy_append]

/-- The re-check of every head. -/
theorem recheck_checksPorts (s : State) : ChecksPorts s s.recheck initiators :=
  foldl_recheckOne_checksPorts initiators s (List.nodup_finRange 4)

/-- A port without a head is left by the notices that follow a claim. -/
theorem view_notices_of_noHead (before s : State) (i : Initiator) (h : s.head i = .noHead) :
    (State.notices before s).view i = s.view i := by
  obtain ⟨t, ht, hn⟩ := notices_cases before s
  have hst : t.view i = s.view i := by
    rcases ht with rfl | rfl
    · rfl
    · rcases suspectIfReached_cases s with ⟨-, -, e⟩ | ⟨-, e⟩ <;> rw [e]
      rfl
  rcases hn with hn | hn <;> rw [hn]
  · have hhead : t.head i = .noHead := (congrArg PortView.status hst).trans h
    rw [(recheck_checksPorts t).view, if_neg (fun hc => hc.2 hhead), hst]
  · exact hst

end Sys2Proof.Machine
end

section
/-!
O60: answers sent and answers owed change together.
-/

namespace Sys2Proof.Machine

/-- Moves answer exactly what they cease to owe to an initiator that is not lost (R3, R11, R45). -/
theorem Moves.answers {lost : Initiator → Prop} {s t : State} (h : Moves lost s t) (hs : s.TrackerLaws) {i : Initiator} (hi : ¬lost i) :
    t.responsesTo i + t.owed i = s.responsesTo i + s.owed i := by
  have hP := h.keeps (P := fun u => u.TrackerLaws ∧ u.responsesTo i + u.owed i = s.responsesTo i + s.owed i)
    (fun u v hm hu => ⟨hm.trackerLaws hu.1, (hm.answers hu.1 hi).trans hu.2⟩) ⟨hs, rfl⟩
  exact hP.2

/-- Calm events that lose nobody's requests answer what they cease to owe. -/
theorem Calm.conserves {s t : State} (h : Calm (fun _ => False) s t) (i : Initiator) :
    t.responsesTo i + t.owed i = s.responsesTo i + s.owed i := by
  have ha := h.answers i not_false
  rw [owed_eq, owed_eq, outstanding_of_tracker h.tracker]
  omega

theorem outstanding_eq_zero {s : State} {i : Initiator} (h : ∀ x e, s.entry x = some e → e.owes i = false) : s.outstanding i = 0 := by
  rw [outstanding_eq, State.countEntries, List.countP_eq_zero]
  intro x _
  cases hx : s.entry x with
  | none => simp
  | some e => simp [h x e hx]

/-! ### A REQUEST (R41) -/

section
variable (s : State) (i : Initiator) (r : Request)

/-- A request refused on arrival is one answer more, to its own initiator. -/
theorem refuse_conserves (j : Initiator) :
    (s.refuse i r).responsesTo j + (s.refuse i r).owed j = s.responsesTo j + s.owed j + if i = j then 1 else 0 := by
  unfold State.refuse
  have hreport := (report_calm (fun _ => False) (s.send i (.response r.tag .errRefused []))
    [{ event := .refused, initiator := i, qualifier := 4 }] none).conserves j
  have howed : (s.send i (.response r.tag .errRefused [])).owed j = s.owed j := by
    rw [owed_eq, owed_eq, port_of_ports (State.send_ports ..), outstanding_of_tracker (State.send_tracker ..)]
  rw [hreport, responsesTo_send, howed]
  by_cases hij : i = j <;> simp [hij, ToInitiator.isResponse]
  omega

theorem refuseWithCredit_conserves (j : Initiator) :
    (s.refuseWithCredit i r).responsesTo j + (s.refuseWithCredit i r).owed j =
      s.responsesTo j + s.owed j + if i = j then 1 else 0 := by
  unfold State.refuseWithCredit
  have hrest := ((returnCredit_calm (fun _ => False) (s.send i (.response r.tag .errRefused [])) i).trans
    (report_calm _ _ [{ event := .refused, initiator := i, qualifier := 4 }] none)).conserves j
  have howed : (s.send i (.response r.tag .errRefused [])).owed j = s.owed j := by
    rw [owed_eq, owed_eq, port_of_ports (State.send_ports ..), outstanding_of_tracker (State.send_tracker ..)]
  rw [hrest, responsesTo_send, howed]
  by_cases hij : i = j <;> simp [hij, ToInitiator.isResponse]
  omega

theorem appendRequest_conserves (j : Initiator) :
    (s.appendRequest i r).responsesTo j + (s.appendRequest i r).owed j = s.responsesTo j + s.owed j + if i = j then 1 else 0 := by
  have happend : (s.modPort i fun p => { p with queue := p.queue ++ [r] }).responsesTo j +
      (s.modPort i fun p => { p with queue := p.queue ++ [r] }).owed j = s.responsesTo j + s.owed j + if i = j then 1 else 0 := by
    rw [owed_eq, owed_eq, responsesTo_of_links (State.modPort_links ..), outstanding_of_tracker (State.modPort_tracker ..), port_modPort]
    by_cases hij : i = j
    · simp only [hij, if_true, List.length_append, List.length_singleton]
      omega
    · simp [hij]
  unfold State.appendRequest
  simp only
  split
  · rw [(headArrives_calm (fun _ => False) _ i).conserves, happend]
  · exact happend

/-- A REQUEST adds at most one answer sent or owed, and to its own initiator (R41). -/
theorem checkArrival_conserves (j : Initiator) :
    (s.checkArrival i r).responsesTo j + (s.checkArrival i r).owed j = s.responsesTo j + s.owed j ∨
      (s.checkArrival i r).responsesTo j + (s.checkArrival i r).owed j = s.responsesTo j + s.owed j + if i = j then 1 else 0 := by
  unfold State.checkArrival
  split
  · exact .inl (((returnCredit_calm _ s i).trans (logFault_calm _ _ _)).conserves j)
  · split
    · exact .inr (by rw [(logFault_calm (fun _ => False) _ _).conserves, refuseWithCredit_conserves])
    · split
      · exact .inr (refuseWithCredit_conserves s i r j)
      · exact .inr (appendRequest_conserves s i r j)

theorem arrive_conserves (j : Initiator) :
    (s.arrive i r).responsesTo j + (s.arrive i r).owed j = s.responsesTo j + s.owed j ∨
      (s.arrive i r).responsesTo j + (s.arrive i r).owed j = s.responsesTo j + s.owed j + if i = j then 1 else 0 := by
  unfold State.arrive
  split
  · exact .inl ((logFault_calm _ s _).conserves j)
  · exact .inr (refuse_conserves s i r j)
  · split
    · exact .inl ((logFault_calm _ s _).conserves j)
    · rw [← (modPort_calm (fun _ => False) s i (fun p => { p with granted := p.granted - 1 }) rfl).conserves j]
      exact checkArrival_conserves _ i r j

end

/-! ### A LINK_RESET (R147) -/

theorem settleEntry_silent (sel : EntryIdx → Entry → Bool) (c : DetachCause) (acc : State × List Settled) (x : EntryIdx) :
    (settleEntry sel none c acc x).1.links = acc.1.links := by
  cases hx : acc.1.entry x with
  | none => rw [settleEntry_of_pass sel none c acc.1 acc.2 x (by simp [hx])]
  | some e =>
    by_cases hs : sel x e = true
    · rcases Phase.cases_live e.phase with ⟨hp, -⟩ | ⟨hp, -⟩ | ⟨hp, -⟩
      · rw [settleEntry_of_pass sel none c acc.1 acc.2 x fun f hf => .inr (by rw [hx] at hf; cases hf; exact hp)]
      · rw [settleEntry_of_issued sel none c acc.1 acc.2 x hx hs hp]
        rfl
      · rw [settleEntry_of_unissued sel none c acc.1 acc.2 x hx hs hp]
        exact freeEntry_links ..
    · rw [settleEntry_of_pass sel none c acc.1 acc.2 x fun f hf => .inl (by rw [hx] at hf; cases hf; simpa using hs)]

/-- The link-reset claim is silent (R20). -/
theorem linkResetClaim_links (s : State) (i : Initiator) : (s.linkResetClaim i).links = s.links := by
  have fold : ∀ (l : List EntryIdx) (acc : State × List Settled),
      (l.foldl (settleEntry (fun _ e => e.initiator == i) none .linkReset) acc).1.links = acc.1.links := by
    intro l
    induction l with
    | nil => exact fun _ => rfl
    | cons x l ih => exact fun acc => (ih _).trans (settleEntry_silent ..)
  unfold State.linkResetClaim State.claim
  rw [fold]

/-- The link-reset claim leaves nothing of its initiator live (R20). -/
theorem outstanding_linkResetClaim (s : State) (i : Initiator) : (s.linkResetClaim i).outstanding i = 0 := by
  have hsel : SteadySelection fun e => e.initiator == i := fun e f h => by simp only [(carriedBy_iff.mp h.1).1]
  refine outstanding_eq_zero fun x g hg => ?_
  obtain ⟨e, -, hi, hd⟩ := not_live_of_settledBy (claim_settledBy hsel none .linkReset s x) hg
  rw [Entry.owes, Bool.and_eq_false_iff]
  by_cases he : e.initiator = i
  · rcases g.phase.cases_live with ⟨-, hp⟩ | ⟨hp, -⟩ | ⟨hp | hp, -⟩
    · exact .inr hp
    all_goals exact absurd (hd (beq_iff_eq.mpr he)) (by simp [hp, Phase.isDetached])
  · exact .inl (by simpa [hi] using he)

/-- A LINK_RESET drops what its initiator is owed, unanswered (R147). -/
theorem resetPort_drops (s : State) (i : Initiator) :
    (s.resetPort i).responsesTo i = s.responsesTo i ∧ (s.resetPort i).owed i = 0 := by
  have hclaim := linkResetClaim_links ((s.modPort i fun p => { p with queue := [] }).setHead i .noHead) i
  have hsettled := outstanding_linkResetClaim ((s.modPort i fun p => { p with queue := [] }).setHead i .noHead) i
  unfold State.resetPort
  simp only
  generalize ((s.modPort i fun p => { p with queue := [] }).setHead i .noHead).linkResetClaim i = w at hclaim hsettled
  generalize hu : ((w.closePort i .fenced).raise (.portReset i)).logFault (linkResetFault i) = u
  have hhead : u.head i = .noHead := by
    rw [← hu, State.head, logFault_admission]
    exact (head_setHead (w.modPort i _) i i .noHead).trans (if_pos rfl)
  have hlinks : u.links = s.links := by
    rw [← hu, logFault_links, State.raise_links, State.closePort_links, hclaim, State.setHead_links, State.modPort_links]
  have hqueue : (u.port i).queue = [] := by
    rw [← hu, port_of_ports (logFault_ports ..), port_of_ports (State.raise_ports ..), State.closePort, port_setHead, port_modPort,
      if_pos rfl]
  have hentries : u.outstanding i = 0 := by
    rw [← hu, outstanding_of_tracker (logFault_tracker ..), outstanding_of_tracker (State.raise_tracker ..),
      outstanding_of_tracker (State.closePort_tracker ..), hsettled]
  have hview : (State.notices s u).view i = u.view i := view_notices_of_noHead s u i hhead
  have hempty : ((State.notices s u).port i).queue = [] := (congrArg PortView.queue hview).trans hqueue
  constructor
  · rw [← responsesTo_of_links hlinks, responsesTo_eq, responsesTo_eq]
    exact congrArg _ (congrArg PortView.sent hview)
  · rw [owed_eq, outstanding_of_tracker (notices_calm (fun _ => False) s u).tracker, hentries, hempty, List.length_nil]

/-- The outstanding-zero notice answers nobody and leaves a DISABLED port DISABLED (R142). -/
theorem takeZeroNotice_silent (s : State) (i : Initiator) : (s.takeZeroNotice i).responsesTo i = s.responsesTo i ∧
    (((s.takeZeroNotice i).port i).state = .disabled → (s.port i).state = .disabled) := by
  unfold State.takeZeroNotice
  split
  · refine ⟨?_, fun h => ?_⟩
    · exact (responsesTo_send s i i .revoke).trans (by rw [if_neg (by simp [ToInitiator.isResponse])]; rfl)
    · have hp : ((s.completeDrain i).port i).state = .fenced := by
        rw [State.completeDrain, port_of_ports (State.raise_ports ..), port_modPort, if_pos rfl]
      rw [hp] at h
      cases h
  · exact ⟨rfl, id⟩

theorem linkReset_drops (s : State) (i : Initiator) :
    (s.linkReset i).responsesTo i = s.responsesTo i ∧ ((s.port i).state ≠ .disabled → (s.linkReset i).owed i = 0) := by
  obtain ⟨hr, hd⟩ := takeZeroNotice_silent s i
  have hreset := resetPort_drops (s.takeZeroNotice i) i
  unfold State.linkReset
  simp only
  cases hp : ((s.takeZeroNotice i).port i).state with
  | disabled => exact ⟨(responsesTo_of_links (logFault_links ..) i).trans hr, fun h => absurd (hd hp) h⟩
  | active => exact ⟨hreset.1.trans hr, fun _ => hreset.2⟩
  | draining => exact ⟨hreset.1.trans hr, fun _ => hreset.2⟩
  | fenced => exact ⟨hreset.1.trans hr, fun _ => hreset.2⟩

/-! ### Resets (R193, R195) -/

/-- Nothing is owed where nothing is queued and every entry is FREE. -/
theorem owed_eq_zero {s : State} {i : Initiator} (hx : ∀ x, s.entry x = none) (hq : (s.port i).queue = []) : s.owed i = 0 := by
  rw [owed_eq, hq, outstanding_eq_zero fun x e he => by rw [hx x] at he; cases he]
  rfl

theorem commandTrafficReset_drops (s : State) (i : Initiator) :
    s.commandTrafficReset.responsesTo i = s.responsesTo i ∧ s.commandTrafficReset.owed i = 0 := by
  obtain ⟨hx, -, hq, hr⟩ := trafficReset_clears s
  have hc := complete_calm (fun _ => False) s.trafficReset Config.codeTrafficReset .done
  refine ⟨(responsesTo_of_links ?_ i).trans (hr i), owed_eq_zero (fun x => ?_) (List.suffix_nil.mp (hq i ▸ hc.queue i))⟩
  · unfold State.commandTrafficReset
    generalize s.trafficReset = t
    rfl
  · exact (entry_of_tracker hc.tracker x).trans (hx x)

theorem deviceReset_drops (s : State) (i : Initiator) : s.deviceReset.responsesTo i = s.responsesTo i ∧ s.deviceReset.owed i = 0 :=
  ⟨rfl, owed_eq_zero (fun x => by simp [State.entry, State.deviceReset, State.reset])
    (by simp [State.port, State.deviceReset, State.reset, Port.reset])⟩

/-! ### O60 -/

/-- Settles O60: every command is moves, which answer what they cease to owe; only those that take requests or drop them remain. -/
theorem everyRequestIsAnsweredOnce : Obligations.EveryRequestIsAnsweredOnce := by
  intro c s t i hr hw hlaws he
  have fair : ¬lossesOf c i → t.responsesTo i + t.owed i = s.responsesTo i + s.owed i := (exec_moves he).answers hlaws
  have next_high : ∀ f : State → State, (.next (s.outOfReset f) : Host.Outcome State Fault Refusal) = .next t → f s = t :=
    fun f h => by rw [State.outOfReset_high s f hr] at h; cases h; rfl
  cases c with
  | request j r =>
    obtain rfl := next_high (fun u => u.arrive j r) he
    rcases arrive_conserves s j r i with h | h
    · exact .inl h
    · by_cases hji : j = i
      · exact .inr ⟨hji, by rw [h, if_pos hji]⟩
      · exact .inl (by rw [h, if_neg hji, Nat.add_zero])
  | linkReset j =>
    by_cases hji : j = i
    · obtain rfl := next_high (fun u => u.linkReset j) he
      subst hji
      exact (if_pos rfl).mpr (linkReset_drops s j)
    · exact (if_neg hji).mpr (fair fun h => hji h.symm)
  | trafficReset =>
    obtain rfl := next_high State.commandTrafficReset he
    exact commandTrafficReset_drops s i
  | deviceReset =>
    cases he
    exact deviceReset_drops s i
  | unassignedCommand code =>
    refine fair fun hc => ?_
    rw [show code = Config.codeTrafficReset from hc] at hw
    exact absurd hw (by decide)
  | registerWrite a v =>
    refine fair fun ⟨ha, _⟩ => ?_
    rw [show a = 0x14 from BitVec.eq_of_toNat_eq ha] at hw
    exact absurd (show (!Config.hasOwnWriteRow 0x14) = true from hw) (by decide)
  | _ => exact fair not_false

end Sys2Proof.Machine
end

section
/-!
O4 and O39: the values of device reset, and the inspection registers.
-/

namespace Sys2Proof.Machine

/-! ### The words of the inspection registers (11.2) -/

/-- The addresses 0x20 to 0x34 read the snapshot (R25). -/
theorem readWord_snapshot (s : State) (a : BitVec 8) (hl : 0x20 ≤ a.toNat) (hu : a.toNat ≤ 0x34) :
    s.readWord a = s.management.snapshot.word (a.toNat - 0x20) := by
  unfold State.readWord
  simp only
  iterate 13 rw [if_neg (by omega)]
  rw [if_neg (by omega), if_pos ⟨hl, hu⟩]

/-- The FREE image reads 0 everywhere (R25). -/
theorem free_word : ∀ k : Fin 21, Snapshot.free.word k = 0 := by decide

theorem readWord_free {s : State} (h : s.management.snapshot = .free) (a : BitVec 8) (hl : 0x20 ≤ a.toNat) (hu : a.toNat ≤ 0x34) :
    s.readWord a = 0 := by
  rw [readWord_snapshot s a hl hu, h]
  exact free_word ⟨a.toNat - 0x20, by omega⟩

/-! ### O4 -/

/-- While RST_N is low only the pin itself acts (R195). -/
theorem exec_of_low {s : State} (h : s.rstN = false) {c : Instr} (hc : c ≠ .deviceReset) : exec c s = .next s := by
  have lost : ∀ f : State → State, (.next (s.outOfReset f) : Host.Outcome State Fault Refusal) = .next s := fun f => by
    rw [State.outOfReset_low s f h]
  cases c with
  | deviceReset => exact absurd rfl hc
  | _ => exact lost _

theorem countEntries_of_free {s : State} (h : ∀ x, s.entry x = none) (p : Entry → Bool) : s.countEntries p = 0 := by
  rw [State.countEntries, List.countP_eq_zero]
  intro x _
  simp [h x]

theorem entry_deviceReset (s : State) (x : EntryIdx) : s.deviceReset.entry x = none := by
  simp [State.entry, State.deviceReset, State.reset]

/-- Settles O4: every value is the one of `State.reset`, and the counts are those of a tracker with every entry FREE. -/
theorem deviceResetValues : Obligations.DeviceResetValues := by
  intro s
  have hcount := countEntries_of_free (entry_deviceReset s)
  have huse : s.deviceReset.inUse = fun _ => 0 := funext fun i => hcount _
  have hfree : s.deviceReset.freeCount = 64 := by simp [State.freeCount, huse]
  refine ⟨fun h => ⟨by simp [State.intLow, h], fun c => exec_of_low h⟩, s.deviceReset, rfl, rfl, rfl, rfl, entry_deviceReset s, hfree,
    hcount _, fun i => ⟨?_, ?_, ?_, ?_, hcount _, hcount _, fun k => ?_⟩, rfl, rfl, fun w => ?_, rfl, rfl, rfl, rfl, fun c => ?_, rfl, rfl,
    rfl, fun c => ?_, rfl, ?_, rfl, rfl, rfl, fun k => ?_, rfl, rfl, readWord_free rfl⟩
  · simp [State.port, State.deviceReset, State.reset, Port.reset]
  · simp [State.head, State.deviceReset, State.reset]
  · simp [State.profile, State.deviceReset, State.reset, Profile.reset]
  · simp [State.remaining, State.deviceReset, State.reset]
  · simp [State.deviceReset, State.reset]
  · simp [State.deviceReset, State.reset, Window.reset]
    rfl
  · simp [State.counter, State.deviceReset, State.reset, Counter.reset]
    rfl
  · simp [State.flag, State.deviceReset, State.reset]
  · simp [State.intLow, State.deviceReset, State.reset]
  · simp [State.staged, State.deviceReset, State.reset]

/-! ### The words of an entry's image (R25, R26) -/

theorem readWord_inspection (s : State) (k : Nat) (hk : k ≤ 20) :
    s.readWord (BitVec.ofNat 8 (0x20 + k)) = s.management.snapshot.word k := by
  have ha : (BitVec.ofNat 8 (0x20 + k)).toNat = 0x20 + k := by
    rw [BitVec.toNat_ofNat]
    omega
  rw [readWord_snapshot s _ (by omega) (by omega), ha, Nat.add_sub_cancel_left]

/-- A word of fields that fit in it is their sum at their places. -/
theorem pack_toNat (l : List (Nat × Nat)) (h : (l.map fun f => f.1 * 2 ^ f.2).sum < 65536) :
    (pack l).toNat = (l.map fun f => f.1 * 2 ^ f.2).sum := by
  rw [pack, BitVec.toNat_ofNat]
  exact Nat.mod_eq_of_lt h

/-- The two words of a 32-bit value. -/
theorem words_join (v : BitVec 32) : (highWord v).toNat * 65536 + (lowWord v).toNat = v.toNat := by
  have := v.isLt
  simp only [highWord, lowWord, BitVec.extractLsb'_toNat, Nat.shiftRight_eq_div_pow]
  omega

/-- The index in place `j` of a dependency list, 0 past its end (R26). -/
def slotOf (l : List EntryIdx) (j : Nat) : Nat := match l[j]? with | some y => y.val | none => 0

theorem slotOf_lt (l : List EntryIdx) (j : Nat) : slotOf l j < 64 := by
  unfold slotOf
  split
  · exact Fin.isLt _
  · exact Nat.zero_lt_succ _

/-- The lowest eight indices are shown (R26). -/
theorem slot_listImage (l : List EntryIdx) (j : Nat) (hj : j < 8) : (listImage l).slot j = slotOf l j := by
  have hslots : (listImage l).slots[j]? = l[j]? := List.getElem?_take_of_lt hj
  cases hl : l[j]? <;> simp [ListImage.slot, slotOf, hslots, hl]

theorem slotWord_listImage (l : List EntryIdx) (k : Nat) (hk : k < 4) :
    ((listImage l).slotWord k).toNat = slotOf l (2 * k) + 256 * slotOf l (2 * k + 1) := by
  have h0 := slotOf_lt l (2 * k)
  have h1 := slotOf_lt l (2 * k + 1)
  rw [ListImage.slotWord, slot_listImage l _ (by omega), slot_listImage l _ (by omega), pack_toNat _ (by simp; omega)]
  simp
  omega

theorem length_le_of_ascending {l : List EntryIdx} (h : l.Pairwise (· < ·)) : l.length ≤ 64 := by
  simpa using (nodup_of_ascending h).length_le_card

theorem countWord_listImage {l : List EntryIdx} (h : l.Pairwise (· < ·)) :
    ((listImage l).countWord).toNat = l.length + (if 8 < l.length then 32768 else 0) := by
  have hl := length_le_of_ascending h
  by_cases h8 : 8 < l.length
  · rw [ListImage.countWord, pack_toNat _ (by simp [listImage, h8]; omega)]
    simp [listImage, h8]
  · rw [ListImage.countWord, pack_toNat _ (by simp [listImage, h8]; omega)]
    simp [listImage, h8]

/-! ### O39 -/

section
variable (e : Entry)

theorem word0_snapshotOf : ((snapshotOf (some e)).word 0).toNat =
    phaseCode (some e.phase) + 16 * e.initiator + (if e.op = .write then 64 else 0) + (if e.cls = .high then 128 else 0) := by
  have hi := e.initiator.isLt
  have hp : phaseCode (some e.phase) ≤ 4 := by cases e.phase <;> simp [phaseCode]
  have hop : opCode e.op * 64 = if e.op = .write then 64 else 0 := by cases e.op <;> rfl
  have hcls : e.cls.code * 128 = if e.cls = .high then 128 else 0 := by cases e.cls <;> rfl
  have hw : (snapshotOf (some e)).word 0 = pack [(phaseCode (some e.phase), 0), (e.initiator, 4), (opCode e.op, 6), (e.cls.code, 7)] := rfl
  have hopLe : opCode e.op ≤ 1 := by cases e.op <;> simp [opCode]
  have hclsLe : e.cls.code ≤ 1 := by cases e.cls <;> simp [Cls.code]
  rw [hw, pack_toNat _ (by simp; omega), ← hop, ← hcls]
  simp
  omega

theorem word1_snapshotOf : ((snapshotOf (some e)).word 1).toNat = e.tag.isSome.toNat + 2 * e.expiryTick.isSome.toNat +
    4 * e.phase.cause?.isSome.toNat + 8 * (decide (e.op = .write ∧ (e.phase = .waiting ∨ e.phase = .ready))).toNat := by
  have hw : (snapshotOf (some e)).word 1 = pack [(e.tag.isSome.toNat, 0), (e.expiryTick.isSome.toNat, 1), (e.phase.cause?.isSome.toNat, 2),
    ((decide (e.op = .write ∧ (e.phase = .waiting ∨ e.phase = .ready))).toNat, 3)] := rfl
  have h0 := e.tag.isSome.toNat_le
  have h1 := e.expiryTick.isSome.toNat_le
  have h2 := e.phase.cause?.isSome.toNat_le
  have h3 := (decide (e.op = .write ∧ (e.phase = .waiting ∨ e.phase = .ready))).toNat_le
  rw [hw]
  generalize (decide (e.op = .write ∧ (e.phase = .waiting ∨ e.phase = .ready))).toNat = d at h3
  rw [pack_toNat _ (by simp; omega)]
  simp
  omega

theorem word2_snapshotOf (hb : e.beats ≤ 8) : ((snapshotOf (some e)).word 2).toNat = (e.tag.getD 0).val + 16 * e.beats + 256 * e.window +
    4096 * (e.phase.cause?.map DetachCause.code).getD 0 := by
  have hw : (snapshotOf (some e)).word 2 = pack [((e.tag.getD 0 : Tag), 0), (e.beats, 4), (e.window, 8),
    ((e.phase.cause?.map DetachCause.code).getD 0, 12)] := rfl
  have h0 := (e.tag.getD 0).isLt
  have h1 := e.window.isLt
  have h2 : (e.phase.cause?.map DetachCause.code).getD 0 ≤ 4 := by
    cases e.phase.cause? with
    | none => exact Nat.zero_le _
    | some c => cases c <;> simp [DetachCause.code]
  rw [hw, pack_toNat _ (by simp; omega)]
  simp
  omega

end

theorem complete_of_done (s : State) (code : Word) :
    s.complete code .done = { s with management := { s.management with command := code, status := .done } } := by
  rcases complete_cases s code .done with ⟨-, h⟩ | ⟨h, -⟩
  · exact h
  · exact absurd rfl h

/-- TRACKER_SNAPSHOT copies the image of the entry its argument names. -/
theorem commandSnapshot_eq {s : State} {x : EntryIdx} (h : s.management.argument.toNat = x) :
    s.commandSnapshot = { s with management := { s.management with
      snapshot := snapshotOf (s.entry x), command := Config.codeTrackerSnapshot, status := .done } } := by
  unfold State.commandSnapshot
  rw [withArgument_of_lt s 64 _ _ x h]
  exact complete_of_done _ _

theorem snapshot_frame {s : State} (p : Snapshot) (code : Word) :
    s.Frame { s with management := { s.management with snapshot := p, command := code, status := .done } } (.snapshot :: Piece.ofCommand) := by
  refine ⟨rfl, fun q hq => ?_⟩
  simp only [Piece.ofCommand, List.mem_cons, not_or] at hq
  obtain ⟨hsnapshot, hcommand, hstatus, -⟩ := hq
  cases q with
  | snapshot => exact absurd rfl hsnapshot
  | command => exact absurd rfl hcommand
  | status => exact absurd rfl hstatus
  | histogramIndex => exact decide_eq_true ⟨rfl, rfl⟩
  | _ => exact decide_eq_true rfl

theorem commandSnapshot_completes {s : State} {x : EntryIdx} (h : s.management.argument.toNat = x) :
    s.commandSnapshot.management.snapshot = snapshotOf (s.entry x) ∧ s.Completes s.commandSnapshot 0x50 .done ∧
      s.Frame s.commandSnapshot (.snapshot :: Piece.ofCommand) := by
  rw [commandSnapshot_eq h]
  exact ⟨rfl, ⟨rfl, rfl, by simp [State.flag]⟩, snapshot_frame _ _⟩

/-- Settles O39: the command writes the image and its own completion, and each word of the map is one of the image's. -/
theorem snapshotCopiesEntry : Obligations.SnapshotCopiesEntry := by
  intro x s hr hx
  have hexec : exec .trackerSnapshot s = .next s.commandSnapshot := congrArg Host.Outcome.next (State.outOfReset_high s _ hr)
  obtain ⟨hsnapshot, hcompletes, hframe⟩ := commandSnapshot_completes hx
  refine ⟨_, hexec, hcompletes, hframe, fun hf a => readWord_free (by rw [hsnapshot, hf]; rfl) a, fun e he => ?_, fun e he hlaws hb => ?_⟩
  · rw [hsnapshot, Option.mem_def.mp he]
    simp [snapshotOf, listImage]
  · obtain ⟨hpred, hsucc, -⟩ := hlaws.2.1.1 x e he
    have hword : ∀ k, k ≤ 20 → (s.commandSnapshot.readWord (BitVec.ofNat 8 (0x20 + k))).toNat = ((snapshotOf (some e)).word k).toNat := fun k hk =>
      congrArg BitVec.toNat ((readWord_inspection _ k hk).trans (congrArg (fun p => Snapshot.word p k) (hsnapshot.trans (congrArg snapshotOf he))))
    have hcause : ∀ p : Phase, (match p with | .detached c => some c | _ => none) = p.cause? := fun p => by cases p <;> rfl
    refine ⟨?_, ?_, ?_, ?_, ?_, ?_, ?_, ?_, ?_, fun k => ⟨?_, ?_⟩⟩
    · exact (hword 0 (by omega)).trans ((word0_snapshotOf e).trans (by cases e.phase <;> rfl))
    · exact (hword 1 (by omega)).trans ((word1_snapshotOf e).trans (by cases e.phase <;> rfl))
    · refine (hword 2 (by omega)).trans ((word2_snapshotOf e hb).trans ?_)
      cases e.tag <;> cases e.phase with
      | detached c => cases c <;> rfl
      | _ => rfl
    · exact (congrArg₂ (fun a b => a * 65536 + b) (hword 4 (by omega)) (hword 3 (by omega))).trans (words_join e.requestAddress)
    · exact (congrArg₂ (fun a b => a * 65536 + b) (hword 6 (by omega)) (hword 5 (by omega))).trans (words_join e.targetAddress)
    · exact (congrArg₂ (fun a b => a * 65536 + b) (hword 8 (by omega)) (hword 7 (by omega))).trans (words_join e.admissionTick)
    · refine (congrArg₂ (fun a b => a * 65536 + b) (hword 10 (by omega)) (hword 9 (by omega))).trans ((words_join (e.expiryTick.getD 0)).trans ?_)
      cases e.expiryTick <;> rfl
    · exact (hword 11 (by omega)).trans (countWord_listImage hpred)
    · exact (hword 16 (by omega)).trans (countWord_listImage hsucc)
    · have hw : (snapshotOf (some e)).word (12 + k) = (listImage e.predecessors).slotWord k := by fin_cases k <;> rfl
      have ha := congrArg (fun a => (s.commandSnapshot.readWord (BitVec.ofNat 8 a)).toNat) (Nat.add_assoc 0x20 12 k)
      exact ha.trans ((hword (12 + k) (by omega)).trans ((congrArg BitVec.toNat hw).trans (slotWord_listImage _ k k.isLt)))
    · have hw : (snapshotOf (some e)).word (17 + k) = (listImage e.successors).slotWord k := by fin_cases k <;> rfl
      have ha := congrArg (fun a => (s.commandSnapshot.readWord (BitVec.ofNat 8 a)).toNat) (Nat.add_assoc 0x20 17 k)
      exact ha.trans ((hword (17 + k) (by omega)).trans ((congrArg BitVec.toNat hw).trans (slotWord_listImage _ k k.isLt)))

end Sys2Proof.Machine
end

section
/-!
What follows a claim: its notices (R5, R60, R116) and the reports of the deadline monitor (R130).
-/

namespace Sys2Proof.Machine

/-! ### Frames -/

/-- What a check of heads may change. -/
theorem OnlyHeads.frame {s t : State} (h : OnlyHeads s t) : s.Frame t Piece.ofRecheck := by
  refine ⟨h.pending, fun p hp => ?_⟩
  simp only [Piece.ofRecheck, Piece.ofReport, List.mem_append, List.mem_cons, List.mem_map, not_or, not_exists, not_and] at hp
  obtain ⟨⟨⟨⟨hhead, hqueue⟩, hgranted⟩, hlink⟩, hbudget, ⟨hvalue, hoverflow⟩, hbank, hovf, -⟩ := hp
  cases p with
  | head i => exact absurd rfl (hhead i (mem_initiators i))
  | queue i => exact absurd rfl (hqueue i (mem_initiators i))
  | granted i => exact absurd rfl (hgranted i (mem_initiators i))
  | link i => exact absurd rfl (hlink i (mem_initiators i))
  | counterValue c => exact absurd rfl (hvalue c (List.mem_finRange c))
  | overflow c => exact absurd rfl (hoverflow c (List.mem_finRange c))
  | bank => exact absurd rfl hbank
  | flag c => exact decide_eq_true (h.flag c (fun hc => hovf (by rw [hc])) fun hc => hbudget (by rw [hc]))
  | entry x => exact decide_eq_true (entry_of_tracker h.tracker x)
  | portState i => exact decide_eq_true (h.portState i)
  | counterControl c => exact decide_eq_true (h.control c)
  | edgeMemory c => exact decide_eq_true (h.edgeMemory c)
  | readHolding c => exact decide_eq_true (h.readHolding c)
  | writeHolding c => exact decide_eq_true (h.writeHolding c)
  | histogramIndex => exact decide_eq_true (by rw [h.management]; exact ⟨rfl, rfl⟩)
  | _ =>
    refine decide_eq_true ?_
    simp only [State.profile, State.remaining, State.staged, h.windows, h.regulation, h.target, h.timebase, h.faultLog, h.management, h.rstN,
      h.sampleOwed, h.toTarget, h.profiles, h.highPointer, h.normalPointer, h.enables, h.edges, h.bins]

/-- What the detached-count rule may change. -/
theorem suspectIfReached_frame (s : State) : s.Frame s.suspectIfReached [.targetState, .flag .targetState] := by
  rcases suspectIfReached_cases s with ⟨-, -, e⟩ | ⟨-, e⟩ <;> rw [e]
  · refine ⟨rfl, fun p hp => ?_⟩
    simp only [List.mem_cons, not_or] at hp
    obtain ⟨hstate, hflag, -⟩ := hp
    cases p with
    | targetState => exact absurd rfl hstate
    | flag c =>
      refine decide_eq_true ((flag_raise ..).trans ?_)
      rw [decide_eq_false fun hc => hflag (by rw [hc]), Bool.or_false]
      rfl
    | histogramIndex => exact decide_eq_true ⟨rfl, rfl⟩
    | _ => exact decide_eq_true rfl
  · exact frame_refl s _

/-- What notices may change. -/
theorem notices_frame (before s : State) : s.Frame (State.notices before s) Piece.ofNotices := by
  obtain ⟨t, ht, hn⟩ := notices_cases before s
  have hst : s.Frame t [.targetState, .flag .targetState] := by
    rcases ht with rfl | rfl
    · exact frame_refl _ _
    · exact suspectIfReached_frame s
  have htn : t.Frame (State.notices before s) Piece.ofRecheck := by
    rcases hn with hn | hn <;> rw [hn]
    · exact (recheck_onlyHeads t).frame
    · exact frame_refl _ _
  exact frame_trans hst htn

theorem logFault_frame (s : State) (r : FaultReport) : s.Frame (s.logFault r) Piece.ofFault := by
  have hflag := flag_logFault s r
  obtain ⟨l, f, h⟩ := logFault_only s r
  rw [h] at hflag ⊢
  refine ⟨rfl, fun p hp => ?_⟩
  simp only [Piece.ofFault, List.mem_cons, not_or] at hp
  obtain ⟨hlog, hfault, hlost, -⟩ := hp
  cases p with
  | faultLog => exact absurd rfl hlog
  | flag c =>
    refine decide_eq_true ((hflag c).trans ?_)
    rw [decide_eq_false, Bool.or_false]
    split
    · exact fun hc => hfault (by rw [hc])
    · exact fun hc => hlost (by rw [hc])
  | histogramIndex => exact decide_eq_true ⟨rfl, rfl⟩
  | _ => exact decide_eq_true rfl

theorem reportTimeout_frame (s : State) (x : Settled) : s.Frame (s.reportTimeout x) (Piece.ofFault ++ Piece.ofRecheck) :=
  frame_trans (logFault_frame s _) (report_onlyHeads _ _).frame

theorem foldl_reportTimeout_frame (l : List Settled) (s : State) :
    s.Frame (l.foldl State.reportTimeout s) (Piece.ofFault ++ Piece.ofRecheck) := by
  induction l generalizing s with
  | nil => exact frame_refl s _
  | cons x l ih => exact frame_mono (frame_trans (reportTimeout_frame s x) (ih _)) fun p hp => (List.mem_append.mp hp).elim id id

/-! ### The notices of a claim -/

/-- The ports that the notices check on the way from `s`, by way of the claimed `u`, to `v`. -/
def State.checksAfter (s u v : State) (i : Initiator) : Bool := s.startsRecheck v && decide ((u.view i).status ≠ .noHead)

/-- What the notices of a claim do on the way from the claimed state `u` to `v`, `s` being the state before the claim. -/
structure TakesNotices (s u v : State) : Prop where
  tracker : v.tracker = u.tracker
  faultLog : v.faultLog = u.faultLog
  timebase : v.timebase = u.timebase
  queueOf : ∀ c, v.target.queueOf c = u.target.queueOf c
  flag : ∀ c, c ≠ .targetState → c ≠ .counterOvf → c ≠ .budgetWait → v.flag c = u.flag c
  detachedCount : s.TakesDetachedCount v
  view : ∀ i, v.view i = if s.checksAfter u v i then v.afterCheck i (u.view i) else u.view i
  budgetWait : v.flag .budgetWait = (u.flag .budgetWait || initiators.any fun i => s.checksAfter u v i && v.entersBudgetWait i (u.view i))
  tallies : u.monitor.mayFreeze = false →
    Tallies u v (u.takenBy (initiators.flatMap fun i => if s.checksAfter u v i then v.refusalReports i (u.view i) else []))

/-- The detached-count rule after a claim, on the way from the claimed state `u` to `w`. -/
structure TakesCount (s u w : State) : Prop where
  eq : ∃ st f, w = { u with target := { u.target with state := st }, interrupts := { u.interrupts with flags := f } }
  flag : ∀ c, c ≠ .targetState → w.flag c = u.flag c
  detachedCount : s.TakesDetachedCount w

theorem count_takesCount {s u : State} (hstate : u.target.state = s.target.state) (hlimit : u.target.detachLimit = s.target.detachLimit)
    (hflag : u.flag .targetState = s.flag .targetState) :
    TakesCount s u (if u.detachedCount ≠ s.detachedCount then u.suspectIfReached else u) := by
  by_cases hc : u.detachedCount ≠ s.detachedCount
  · rw [if_pos hc]
    rcases suspectIfReached_cases u with ⟨honline, hreach, e⟩ | ⟨hno, e⟩ <;> rw [e]
    · have hreached : u.detachedCount ≠ s.detachedCount ∧ s.target.state = .online ∧ s.target.detachLimit ≤ u.detachedCount :=
        ⟨hc, hstate ▸ honline, hlimit ▸ hreach⟩
      refine ⟨⟨.suspect, _, rfl⟩, fun c h => ?_, ?_, ?_⟩
      · rw [flag_raise, decide_eq_false h, Bool.or_false]
        rfl
      · exact (if_pos (decide_eq_true hreached)).symm
      · rw [flag_raise, decide_eq_true rfl, Bool.or_true]
        exact ((congrArg (s.flag .targetState || ·) (decide_eq_true hreached)).trans (Bool.or_true _)).symm
    · have hnot : ¬(u.detachedCount ≠ s.detachedCount ∧ s.target.state = .online ∧ s.target.detachLimit ≤ u.detachedCount) :=
        fun h => hno ⟨hstate.trans h.2.1, hlimit ▸ h.2.2⟩
      refine ⟨⟨u.target.state, u.interrupts.flags, rfl⟩, fun _ _ => rfl, ?_, ?_⟩
      · rw [decide_eq_false hnot]; exact hstate
      · rw [decide_eq_false hnot, Bool.or_false]; exact hflag
  · rw [if_neg hc]
    have hnot : ¬(u.detachedCount ≠ s.detachedCount ∧ s.target.state = .online ∧ s.target.detachLimit ≤ u.detachedCount) := fun h => hc h.1
    refine ⟨⟨u.target.state, u.interrupts.flags, rfl⟩, fun _ _ => rfl, ?_, ?_⟩
    · rw [decide_eq_false hnot]; exact hstate
    · rw [decide_eq_false hnot, Bool.or_false]; exact hflag

/-- The notices of a claim (R5, R60, R116). -/
theorem notices_takesNotices {s u : State} (h : OnlyClaims s u) : TakesNotices s u (State.notices s u) := by
  obtain ⟨⟨st, f, hw⟩, hflag, hcount⟩ := count_takesCount (s := s) (u := u) h.targetState h.detachLimit (by simp only [State.flag, h.interrupts])
  unfold State.notices
  simp only
  generalize (if u.detachedCount ≠ s.detachedCount then u.suspectIfReached else u) = w at hw hflag hcount
  have htracker : w.tracker = u.tracker := by rw [hw]
  have hview : ∀ i, w.view i = u.view i := fun i => by rw [hw]; rfl
  have hmonitor : w.monitor = u.monitor := by rw [hw]
  have hqueue : ∀ c, w.target.queueOf c = u.target.queueOf c := fun c => by rw [hw]; cases c <;> rfl
  have hlog : w.faultLog = u.faultLog := by rw [hw]
  have htimebase : w.timebase = u.timebase := by rw [hw]
  by_cases hstart : w.freeCount ≠ s.freeCount ∨ w.target.state ≠ s.target.state
  · rw [if_pos hstart]
    obtain ⟨hcview, hcflag, hctally⟩ := recheck_checksPorts w
    have honly := recheck_onlyHeads w
    generalize w.recheck = v at *
    have hdetached : v.detachedCount = w.detachedCount := detachedCount_of_tracker honly.tracker
    have hchecks : ∀ i, s.checksAfter u v i = decide (w.head i ≠ .noHead) := fun i => by
      have hon : s.startsRecheck v = true := by
        rw [State.startsRecheck, freeCount_of_tracker honly.tracker, honly.target]
        simpa using hstart
      rw [State.checksAfter, hon, Bool.true_and, ← hview i]
      rfl
    have hcongr := fun i r => (honly.verdict i r).symm
    refine ⟨honly.tracker.trans htracker, honly.faultLog.trans hlog, honly.timebase.trans htimebase,
      fun c => by rw [honly.target, hqueue], fun c ht ho hb => (honly.flag c ho hb).trans (hflag c ht), ?_, fun i => ?_, ?_, fun hm => ?_⟩
    · rw [State.TakesDetachedCount, hdetached, honly.target, honly.flag .targetState (by simp) (by simp)]
      exact hcount
    · rw [hcview, hchecks, ← hview i, afterCheck_congr hcongr]
      simp [mem_initiators]
    · rw [hcflag, hflag _ (by simp)]
      simp only [hchecks, ← hview, entersBudgetWait_congr hcongr]
    · have hwu : Tallies u w fun _ => 0 := Tallies.of_monitor hmonitor
      refine (hwu.trans (hctally (hwu.mayFreeze hm))).congr fun c => ?_
      rw [hwu.takenBy, Nat.zero_add]
      simp only [hchecks, ← hview, refusalReports_congr hcongr, decide_eq_true_eq]
  · rw [if_neg hstart]
    have hchecks : ∀ i, s.checksAfter u w i = false := fun i => by
      have hoff : s.startsRecheck w = false := by
        rw [State.startsRecheck]
        simpa using hstart
      rw [State.checksAfter, hoff, Bool.false_and]
    refine ⟨htracker, hlog, htimebase, hqueue, fun c ht _ _ => hflag c ht, hcount, fun i => ?_, ?_, fun _ => ?_⟩
    · rw [hview, hchecks]
      rfl
    · rw [hflag _ (by simp)]
      simp [hchecks]
    · refine (Tallies.of_monitor hmonitor).congr fun c => ?_
      have hnone : (initiators.flatMap fun i => if s.checksAfter u w i then w.refusalReports i (u.view i) else []) = [] :=
        List.flatMap_eq_nil_iff.mpr fun i _ => by rw [hchecks]; rfl
      rw [hnone, takenBy_nil]

/-! ### The reports of the deadline monitor (R130) -/

/-- The TIMED_OUT report of an expired entry (R130). -/
def timeoutReport (x : Settled) : Report :=
  { event := .timedOut, initiator := x.entry.initiator, qualifier := x.entry.phase.timeoutQualifier }

/-- What the reports of the expired entries `l` do on the way from `v` to `t`. -/
structure ReportsTimeouts (v t : State) (l : List Settled) : Prop where
  tracker : t.tracker = v.tracker
  target : t.target = v.target
  timebase : t.timebase = v.timebase
  view : ∀ i, t.view i = v.view i
  verdict : ∀ i r, t.verdict i r = v.verdict i r
  flag : ∀ c, c ≠ .fault → c ≠ .faultLost → c ≠ .counterOvf → t.flag c = v.flag c
  faultLog : t.faultLog = v.faultLog ++ ((l.map timeoutFault).take (16 - v.faultLog.length)).map fun r => { report := r, tick := v.timebase.count }
  fault : t.flag .fault = (v.flag .fault || decide (v.faultLog.length < 16 ∧ l.length ≠ 0))
  faultLost : t.flag .faultLost = (v.flag .faultLost || decide (16 < v.faultLog.length + l.length ∧ l.length ≠ 0))
  tallies : v.monitor.mayFreeze = false → Tallies v t (v.takenBy (l.map timeoutReport))

theorem foldl_reportTimeout (l : List Settled) : ∀ v : State, ReportsTimeouts v (l.foldl State.reportTimeout v) l := by
  induction l with
  | nil =>
    exact fun v => ⟨rfl, rfl, rfl, fun _ => rfl, fun _ _ => rfl, fun _ _ _ _ => rfl, by simp, by simp, by simp,
      fun _ => (Tallies.of_monitor rfl).congr fun c => by simp [takenBy_nil]⟩
  | cons x l ih =>
    intro v
    rw [List.foldl_cons]
    generalize hr : v.reportTimeout x = w
    have hmon : OnlyMonitor (v.logFault (timeoutFault x)) w := hr ▸ report_onlyMonitor _ _ none
    have htally : v.monitor.mayFreeze = false → Tallies v w (v.takenBy [timeoutReport x]) := fun hm => by
      have hlog : Tallies v (v.logFault (timeoutFault x)) fun _ => 0 := Tallies.of_monitor (logFault_monitor ..)
      rw [← hr]
      refine (hlog.trans (report_tallies _ _ (hlog.mayFreeze hm))).congr fun c => ?_
      rw [hlog.takenBy, Nat.zero_add]
      rfl
    have hflag : ∀ c, c ≠ .counterOvf → w.flag c = (v.flag c || decide (c = if v.faultLog.length < 16 then Cause.fault else .faultLost)) :=
      fun c hc => (hmon.flag c hc).trans (flag_logFault ..)
    have hlog : w.faultLog = (v.logFault (timeoutFault x)).faultLog := hmon.faultLog
    have htracker : w.tracker = v.tracker := hmon.tracker.trans (logFault_tracker ..)
    have htarget : w.target = v.target := hmon.target.trans (logFault_target ..)
    have htimebase : w.timebase = v.timebase := hmon.timebase.trans (logFault_timebase ..)
    have hview : ∀ i, w.view i = v.view i := fun i => (view_of_onlyMonitor hmon i).trans
      (view_ext (by rw [port_of_ports (logFault_ports ..)]) (by rw [port_of_ports (logFault_ports ..)])
        (by rw [State.head, logFault_admission, State.head]) (by rw [State.sentTo, logFault_links, State.sentTo]))
    have hverdict : ∀ i r, w.verdict i r = v.verdict i r := verdict_congr (hmon.windows.trans (logFault_windows ..)) (by rw [htarget])
      (by rw [hmon.admission, logFault_admission]) (by rw [hmon.regulation, logFault_regulation]) htracker
    obtain ⟨ktracker, ktarget, ktimebase, kview, kverdict, kflag, klog, kfault, klost, ktally⟩ := ih w
    refine ⟨ktracker.trans htracker, ktarget.trans htarget, ktimebase.trans htimebase, fun i => (kview i).trans (hview i),
      fun i r => (kverdict i r).trans (hverdict i r), fun c hf hl ho => (kflag c hf hl ho).trans ?_, ?_, ?_, ?_, fun hm => ?_⟩
    · rw [hflag c ho]
      split <;> simp [hf, hl]
    · rw [klog, htimebase]
      rcases logFault_cases v (timeoutFault x) with ⟨hlen, e⟩ | ⟨hlen, e⟩
      · rw [e] at hlog
        obtain ⟨m, hm⟩ : ∃ m, 16 - v.faultLog.length = m + 1 := ⟨15 - v.faultLog.length, by omega⟩
        have hm' : 16 - w.faultLog.length = m := by
          rw [hlog, State.raise_faultLog, List.length_append, List.length_singleton]
          omega
        rw [hm', hm, hlog, List.map_cons, List.take_succ_cons, List.map_cons, State.raise_faultLog, List.append_assoc]
        rfl
      · rw [e] at hlog
        have hv : 16 - v.faultLog.length = 0 := by omega
        have hw : 16 - w.faultLog.length = 0 := by rw [hlog]; exact hv
        rw [hv, hw, hlog]
        rfl
    · rw [kfault, hflag .fault (by simp)]
      rcases logFault_cases v (timeoutFault x) with ⟨hlen, e⟩ | ⟨hlen, e⟩
      · simp [hlen]
      · rw [e] at hlog
        have hwlen : ¬w.faultLog.length < 16 := by rw [hlog]; exact Nat.not_lt.mpr hlen
        simp [Nat.not_lt.mpr hlen, hwlen]
    · rw [klost, hflag .faultLost (by simp)]
      rcases logFault_cases v (timeoutFault x) with ⟨hlen, e⟩ | ⟨hlen, e⟩
      · rw [e] at hlog
        have hwlen : w.faultLog.length = v.faultLog.length + 1 := by rw [hlog]; simp
        rw [if_pos hlen, hwlen, List.length_cons, decide_eq_false (by simp : ¬Cause.faultLost = Cause.fault), Bool.or_false]
        exact congrArg (v.flag .faultLost || ·) (decide_eq_decide.mpr (by omega))
      · have h16 : 16 < v.faultLog.length + (x :: l).length := by rw [List.length_cons]; omega
        simp [Nat.not_lt.mpr hlen]
        omega
    · refine ((htally hm).trans (ktally ((htally hm).mayFreeze hm))).congr fun c => ?_
      rw [(htally hm).takenBy, List.map_cons, ← takenBy_append]
      rfl

end Sys2Proof.Machine
end

section
/-!
What a claim leaves of the tracker and the issue queues, exactly, where the tracker kept its laws (R9, R10, R15, R17).
-/

namespace Sys2Proof.Machine

/-! ### Ascending lists -/

/-- The last of an ascending list bounds it. -/
theorem le_getLast_of_ascending {l : List EntryIdx} (h : l.Pairwise (· < ·)) {x p : EntryIdx} (hx : l.getLast? = some x) (hp : p ∈ l) :
    p ≤ x := by
  obtain ⟨m, rfl⟩ := List.getLast?_eq_some_iff.mp hx
  rcases List.mem_append.mp hp with hm | hm
  · exact le_of_lt ((List.pairwise_append.mp h).2.2 p hm x (List.mem_singleton_self x))
  · exact le_of_eq (List.mem_singleton.mp hm)

theorem getLast_eq_of_ascending {l : List EntryIdx} (h : l.Pairwise (· < ·)) {x : EntryIdx} (hx : x ∈ l) (hle : ∀ p ∈ l, p ≤ x) :
    l.getLast? = some x := by
  cases hl : l.getLast? with
  | none => rw [List.getLast?_eq_none_iff.mp hl] at hx; cases hx
  | some y => rw [le_antisymm (hle y (List.mem_of_getLast? hl)) (le_getLast_of_ascending h hl hx)]

/-! ### One more entry freed -/

/-- The entries of `gone`, and `k`. -/
def goneWith (gone : EntryIdx → Bool) (k x : EntryIdx) : Bool := gone x || decide (x = k)

section
variable {gone : EntryIdx → Bool} {k : EntryIdx} {l : List EntryIdx}

theorem all_goneWith_of_not_mem (h : k ∉ l) : l.all (goneWith gone k) = l.all gone := by
  rw [Bool.eq_iff_iff, List.all_eq_true, List.all_eq_true]
  refine forall_congr' fun p => forall_congr' fun hp => ?_
  simp [goneWith, ne_of_mem_of_not_mem hp h]

/-- Of a list's entries `k` alone is left when the others are gone (R9). -/
theorem filter_eq_singleton_iff (hl : l.Pairwise (· < ·)) (hk : gone k = false) :
    (l.filter fun p => !gone p) = [k] ↔ l.all (goneWith gone k) = true ∧ k ∈ l := by
  rw [List.all_eq_true]
  constructor
  · intro h
    have hmem : ∀ p, (p ∈ l ∧ gone p = false) ↔ p = k := fun p => by
      have := List.mem_filter (x := p) (as := l) (p := fun p => !gone p)
      rw [h] at this
      simpa using this.symm
    refine ⟨fun p hp => ?_, ((hmem k).mpr rfl).1⟩
    rw [goneWith, Bool.or_eq_true, decide_eq_true_eq]
    cases hg : gone p
    · exact .inr ((hmem p).mp ⟨hp, hg⟩)
    · exact .inl rfl
  · rintro ⟨hall, hm⟩
    refine ascending_ext (hl.filter _) (List.pairwise_singleton _ _) fun p => ?_
    rw [List.mem_filter, List.mem_singleton]
    constructor
    · rintro ⟨hp, hg⟩
      have := hall p hp
      simpa [goneWith, show gone p = false by simpa using hg] using this
    · rintro rfl
      exact ⟨hm, by simp [hk]⟩

theorem filter_goneWith (gone : EntryIdx → Bool) (k : EntryIdx) (l : List EntryIdx) :
    ((l.filter fun p => !gone p).filter (· ≠ k)) = l.filter fun p => !goneWith gone k p := by
  rw [List.filter_filter]
  refine List.filter_congr fun p _ => ?_
  by_cases hp : p = k <;> simp [goneWith, hp]

end

/-- An entry that outlives `gone` outlives `k` too as it is without `k` (R9). -/
theorem outliving_without {f : Entry} (hl : f.predecessors.Pairwise (· < ·)) (hwait : f.phase = .waiting ↔ f.predecessors ≠ [])
    {gone : EntryIdx → Bool} {k : EntryIdx} (hk : gone k = false) : (f.outliving gone).without k = f.outliving (goneWith gone k) := by
  have hphase : (if (f.predecessors.filter fun p => !gone p) = [k] then Phase.ready
      else if f.phase = .waiting ∧ f.predecessors.all gone = true then .ready else f.phase) =
      if f.phase = .waiting ∧ f.predecessors.all (goneWith gone k) = true then .ready else f.phase := by
    simp only [filter_eq_singleton_iff hl hk]
    by_cases hm : k ∈ f.predecessors
    · have hw : f.phase = .waiting := hwait.mpr (List.ne_nil_of_mem hm)
      have hnot : ¬f.predecessors.all gone = true := fun h => by
        rw [List.all_eq_true] at h
        simpa [hk] using h k hm
      simp only [hm, and_true, hw, true_and, if_neg hnot]
    · rw [all_goneWith_of_not_mem hm, if_neg fun h => hm h.2]
  simp only [Entry.without, Entry.outliving, filter_goneWith, Entry.mk.injEq, and_self, and_true]
  exact hphase

/-- What a claim makes of an entry that it leaves: it outlives the freed ones, and is detached with `d`, if any (R9, R15). -/
def Entry.settledAs (f : Entry) (gone : EntryIdx → Bool) (d : Option DetachCause) : Entry :=
  match d with
  | none => f.outliving gone
  | some c => { f.outliving gone with phase := .detached c, tag := none, expiryTick := none, writeData := [] }

@[simp] theorem settledAs_predecessors (f : Entry) (gone : EntryIdx → Bool) (d : Option DetachCause) :
    (f.settledAs gone d).predecessors = f.predecessors.filter fun p => !gone p := by cases d <;> rfl

@[simp] theorem settledAs_cls (f : Entry) (gone : EntryIdx → Bool) (d : Option DetachCause) : (f.settledAs gone d).cls = f.cls := by
  cases d <;> rfl

/-- The claim has settled the tracker and the issue queues of `s` so far as `u`: the entries of `gone` are FREE, and those that `det`
names are detached. -/
structure SettledAs (s u : State) (gone : EntryIdx → Bool) (det : EntryIdx → Option DetachCause) : Prop where
  entry : ∀ y, u.entry y = if gone y then none else (s.entry y).map (·.settledAs gone (det y))
  queueOf : ∀ c, u.target.queueOf c = (s.target.queueOf c).filter (fun y => !gone y) ++ s.releases gone c

section
variable {s u : State} {gone : EntryIdx → Bool} {det : EntryIdx → Option DetachCause}

theorem SettledAs.congr {v : State} (h : SettledAs s u gone det) (htr : v.tracker = u.tracker)
    (hq : ∀ c, v.target.queueOf c = u.target.queueOf c) : SettledAs s v gone det :=
  ⟨fun y => (entry_of_tracker htr y).trans (h.entry y), fun c => (hq c).trans (h.queueOf c)⟩

/-- Before the claim nothing is settled. -/
theorem settledAs_refl (hs : s.TrackerLaws) : SettledAs s s (fun _ => false) fun _ => none := by
  have htrue : ∀ l : List EntryIdx, (l.filter fun _ => !false) = l := fun l => List.filter_eq_self.mpr fun _ _ => rfl
  refine ⟨fun y => ?_, fun c => ?_⟩
  · cases hy : s.entry y with
    | none => rfl
    | some f =>
      have hwait := (hs.1 y f hy).2.2.2
      have hnot : ¬(f.phase = .waiting ∧ f.predecessors.all (fun _ => false) = true) := by
        rintro ⟨hw, hall⟩
        obtain ⟨p, hp⟩ := List.exists_mem_of_ne_nil _ (hwait.mp hw)
        simpa using List.all_eq_true.mp hall p hp
      simp only [Bool.false_eq_true, if_false, Option.map_some, Entry.settledAs, Entry.outliving, if_neg hnot, htrue]
  · have hnone : s.releases (fun _ => false) c = [] := by simp [State.releases]
    rw [htrue, hnone, List.append_nil]

/-- A detachment: the queues stay, and one entry more is detached. -/
theorem SettledAs.detach (h : SettledAs s u gone det) {k : EntryIdx} {e : Entry} (hx : s.entry k = some e) (hk : gone k = false)
    (c : DetachCause) :
    SettledAs s (u.detachEntry k (e.outliving gone) c) gone fun y => if y = k then some c else det y := by
  refine ⟨fun y => ?_, fun d => ?_⟩
  · rw [State.detachEntry, entry_setEntry]
    by_cases hy : k = y
    · subst hy
      rw [if_pos rfl, hk, hx, if_pos rfl]
      rfl
    · rw [if_neg hy, h.entry, if_neg (Ne.symm hy)]
  · rw [← h.queueOf]
    rfl

/-- The entries that a claim releases, one more of its entries freed (R10). -/
theorem releases_goneWith (hs : s.TrackerLaws) (h : SettledAs s u gone det) {k : EntryIdx} (hk : gone k = false)
    (hlt : ∀ p, gone p = true → p < k) (c : Cls) :
    s.releases (goneWith gone k) c =
      (s.releases gone c).filter (· ≠ k) ++ entryIndices.filter fun y => u.waitsOnlyFor k y && u.hasClass c y := by
  have hfreed : entryIndices.filter (goneWith gone k) = entryIndices.filter gone ++ [k] := by
    refine ascending_ext (pairwise_entryIndices.filter _) ?_ fun x => ?_
    · rw [List.pairwise_append]
      refine ⟨pairwise_entryIndices.filter _, List.pairwise_singleton _ _, fun p hp q hq => ?_⟩
      rw [List.mem_singleton.mp hq]
      exact hlt p (List.mem_filter.mp hp).2
    · simp [goneWith, mem_entryIndices]
  unfold State.releases
  rw [hfreed, List.flatMap_append, List.flatMap_singleton, List.filter_flatMap]
  refine congrArg₂ (· ++ ·) (List.flatMap_congr fun x hx => ?_) (List.filter_congr fun y _ => ?_)
  · have hxk := hlt x (List.mem_filter.mp hx).2
    rw [List.filter_filter]
    refine List.filter_congr fun y _ => ?_
    cases hy : s.entry y with
    | none => simp
    | some f =>
      have hasc := (hs.2.1.1 y f hy).1
      by_cases hlast : f.predecessors.getLast? = some x
      · have hnot : k ∉ f.predecessors := fun hm => absurd (le_getLast_of_ascending hasc hlast hm) (not_le.mpr hxk)
        rw [Option.any_some, Option.any_some, all_goneWith_of_not_mem hnot]
        simp only [goneWith, Bool.not_or, decide_not]
        ac_rfl
      · simp [hlast]
  · have hentry := h.entry y
    unfold State.waitsOnlyFor State.hasClass
    cases hy : s.entry y with
    | none => simp [hentry, hy]
    | some f =>
      obtain ⟨hasc, -, hself, -⟩ := hs.2.1.1 y f hy
      obtain ⟨-, -, -, hwait⟩ := hs.1 y f hy
      rw [hentry, hy]
      cases hg : gone y with
      | true => simp [goneWith, hg]
      | false =>
        have hlast : f.phase = .waiting ∧ f.predecessors.all (goneWith gone k) = true ∧ f.predecessors.getLast? = some k ↔
            f.predecessors.all (goneWith gone k) = true ∧ k ∈ f.predecessors := by
          constructor
          · rintro ⟨-, hall, hl⟩
            exact ⟨hall, List.mem_of_getLast? hl⟩
          · rintro ⟨hall, hm⟩
            refine ⟨hwait.mpr (List.ne_nil_of_mem hm), hall, getLast_eq_of_ascending hasc hm fun p hp => ?_⟩
            have hp := List.all_eq_true.mp hall p hp
            rw [goneWith, Bool.or_eq_true, decide_eq_true_eq] at hp
            exact hp.elim (fun hg => le_of_lt (hlt p hg)) le_of_eq
        have hyk : y = k → k ∉ f.predecessors := fun hyk => hyk ▸ hself
        rw [Bool.eq_iff_iff]
        simp only [goneWith, hg, Bool.false_or, Bool.and_eq_true, Option.any_some, Option.map_some, decide_eq_true_eq, settledAs_predecessors,
          settledAs_cls, Bool.false_eq_true, if_false, filter_eq_singleton_iff hasc hk, Bool.not_eq_true', decide_eq_false_iff_not] at hlast ⊢
        constructor
        · rintro ⟨-, ⟨⟨hw, hc⟩, hall⟩, hl⟩
          exact ⟨hlast.mp ⟨hw, hall, hl⟩, hc⟩
        · rintro ⟨hm, hc⟩
          obtain ⟨hw, hall, hl⟩ := hlast.mpr hm
          exact ⟨fun he => hyk he hm.2, ⟨⟨hw, hc⟩, hall⟩, hl⟩

/-- A freeing: one entry more is gone. -/
theorem SettledAs.free (h : SettledAs s u gone det) (hs : s.TrackerLaws) (hu : u.TrackerLaws) {k : EntryIdx} {e : Entry}
    (hx : u.entry k = some e) (hk : gone k = false) (hlt : ∀ p, gone p = true → p < k)
    (hdet : ∀ y f, s.entry y = some f → det y ≠ none → f.phase = .issued) : SettledAs s (u.freeEntry k) (goneWith gone k) det := by
  refine ⟨fun y => ?_, fun c => ?_⟩
  · rw [entry_freeEntry_eq hu hx, h.entry]
    by_cases hyk : y = k
    · simp [goneWith, hyk]
    · cases hg : gone y with
      | true => simp [goneWith, hyk, hg]
      | false =>
        cases hy : s.entry y with
        | none => simp [hyk]
        | some f =>
          obtain ⟨hasc, -⟩ := hs.2.1.1 y f hy
          obtain ⟨-, -, -, hwait⟩ := hs.1 y f hy
          have hout := outliving_without hasc hwait hk
          have hsettled : (f.settledAs gone (det y)).without k = f.settledAs (goneWith gone k) (det y) := by
            cases hd : det y with
            | none => exact hout
            | some c =>
              have hi := hdet y f hy (by simp [hd])
              have hnil : f.predecessors = [] := by
                by_contra hne
                rw [hwait.mpr hne] at hi
                cases hi
              simp only [Entry.settledAs, Entry.without, Entry.outliving, hnil, List.filter_nil, filter_goneWith]
              simp
          simp [goneWith, hyk, hg, hsettled]
  · rw [queueOf_freeEntry hu hx, h.queueOf, List.filter_append, filter_goneWith, releases_goneWith hs h hk hlt, List.append_assoc]

end

end Sys2Proof.Machine
end

section
/-!
A claim entry by entry (R11, R17): what it names, whom it answers, and, where the tracker kept its laws, what it leaves exactly.
-/

namespace Sys2Proof.Machine

/-! ### Taking the entries in ascending index -/

theorem take_entryIndices_succ (k : EntryIdx) : entryIndices.take (k + 1) = entryIndices.take k ++ [k] := by
  have hk : k.val < entryIndices.length := by simp [entryIndices]
  rw [List.take_succ_eq_append_getElem hk]
  simp [entryIndices]

theorem take_entryIndices_all : entryIndices.take 64 = entryIndices := List.take_of_length_le (by simp [entryIndices])

/-- What holds before a claim and is kept by each entry's turn holds after it. -/
theorem claim_induction {s : State} {sel : EntryIdx → Entry → Bool} {a : Option Status} {c : DetachCause}
    {P : Nat → State → List Settled → Prop} (hzero : P 0 s [])
    (hstep : ∀ (k : EntryIdx) u l, P k u l → P (k + 1) (settleEntry sel a c (u, l) k).1 (settleEntry sel a c (u, l) k).2) :
    P 64 (s.claim sel a c).1 (s.claim sel a c).2 := by
  have fold : ∀ n, n ≤ 64 → P n ((entryIndices.take n).foldl (settleEntry sel a c) (s, [])).1
      ((entryIndices.take n).foldl (settleEntry sel a c) (s, [])).2 := by
    intro n
    induction n with
    | zero => exact fun _ => hzero
    | succ n ih =>
      intro hn
      rw [take_entryIndices_succ ⟨n, hn⟩, List.foldl_append]
      exact hstep ⟨n, hn⟩ _ _ (ih (Nat.le_of_succ_le hn))
  have h := fold 64 (Nat.le_refl 64)
  rw [take_entryIndices_all] at h
  exact h

/-! ### What a claim names -/

/-- Entry `x` as a claim names it: live and selected (R17). -/
def State.claimed (s : State) (sel : Entry → Bool) (x : EntryIdx) : Option Settled :=
  (s.entry x).bind fun e => if sel e && e.phase.live then some { index := x, entry := e } else none

/-- The answer of a claim for entry `x` to initiator `i`, if any (R11). -/
def State.answerFor (s : State) (i : Initiator) (sel : Entry → Bool) (st : Status) (x : EntryIdx) : Option ToInitiator :=
  (s.entry x).bind fun e => if sel e && e.phase.live && e.initiator = i then e.tag.map fun t => .response t st [] else none

theorem answersTo_eq (s : State) (i : Initiator) (sel : Entry → Bool) (st : Status) :
    s.answersTo i sel st = entryIndices.filterMap (s.answerFor i sel st) := rfl

section
variable {s : State} {sel : Entry → Bool} {x : EntryIdx} {e : Entry}

theorem claimed_of_live (hx : s.entry x = some e) (hs : sel e = true) (hl : e.phase.live = true) :
    s.claimed sel x = some { index := x, entry := e } := by simp [State.claimed, hx, hs, hl]

theorem claimed_eq_none_iff : s.claimed sel x = none ↔ ∀ e, s.entry x = some e → sel e = false ∨ e.phase.live = false := by
  unfold State.claimed
  cases s.entry x with
  | none => simp
  | some e => by_cases h : sel e = true <;> simp [h]

theorem answerFor_of_unclaimed (h : s.claimed sel x = none) (i : Initiator) (st : Status) : s.answerFor i sel st x = none := by
  rw [claimed_eq_none_iff] at h
  unfold State.answerFor
  cases hx : s.entry x with
  | none => rfl
  | some e => rcases h e hx with h | h <;> simp [h]

theorem answerFor_of_live (hx : s.entry x = some e) (hs : sel e = true) (hl : e.phase.live = true) (i : Initiator) (st : Status) :
    s.answerFor i sel st x = if e.initiator = i then e.tag.map fun t => .response t st [] else none := by
  simp [State.answerFor, hx, hs, hl]

end

/-- The entry the claim frees: WAITING or READY, and selected. -/
def State.unissued (s : State) (sel : Entry → Bool) (x : EntryIdx) : Bool :=
  (s.entry x).any fun e => sel e && (e.phase = .waiting || e.phase = .ready)

/-- What is gone of the entries below `n`. -/
def State.goneBelow (s : State) (sel : Entry → Bool) (n : Nat) (x : EntryIdx) : Bool := decide (x.val < n) && s.unissued sel x

/-- What is detached of the entries below `n`. -/
def State.detachedBelow (s : State) (sel : Entry → Bool) (c : DetachCause) (n : Nat) (x : EntryIdx) : Option DetachCause :=
  if x.val < n ∧ ((s.entry x).any fun e => sel e && e.phase = .issued) = true then some c else none

section
variable {s : State} {sel : Entry → Bool} {k : EntryIdx}

theorem goneBelow_succ (s : State) (sel : Entry → Bool) (k x : EntryIdx) :
    s.goneBelow sel (k + 1) x = (s.goneBelow sel k x || (decide (x = k) && s.unissued sel k)) := by
  unfold State.goneBelow
  rcases lt_trichotomy x k with h | rfl | h
  · have : x.val < k.val + 1 := Nat.lt_succ_of_lt h
    simp [Fin.lt_def.mp h, this, ne_of_lt h]
  · simp
  · have h1 : ¬x.val < k.val := not_lt.mpr (Fin.le_def.mp (le_of_lt h))
    have h2 : ¬x.val < k.val + 1 := not_lt.mpr (Fin.lt_def.mp h)
    simp [h1, h2, ne_of_gt h]

theorem goneBelow_self (s : State) (sel : Entry → Bool) (k : EntryIdx) : s.goneBelow sel k k = false := by simp [State.goneBelow]

theorem lt_of_goneBelow {p : EntryIdx} (h : s.goneBelow sel k p = true) : p < k := by
  rw [State.goneBelow, Bool.and_eq_true, decide_eq_true_eq] at h
  exact h.1

/-- A turn that does not free leaves what is gone. -/
theorem goneBelow_succ_of_not (h : s.unissued sel k = false) : s.goneBelow sel (k + 1) = s.goneBelow sel k := by
  funext x
  rw [goneBelow_succ, h, Bool.and_false, Bool.or_false]

theorem goneBelow_succ_of (h : s.unissued sel k = true) : s.goneBelow sel (k + 1) = goneWith (s.goneBelow sel k) k := by
  funext x
  rw [goneBelow_succ, h, Bool.and_true, goneWith]

theorem detachedBelow_succ (s : State) (sel : Entry → Bool) (c : DetachCause) (k x : EntryIdx) :
    s.detachedBelow sel c (k + 1) x = if x = k ∧ ((s.entry k).any fun e => sel e && e.phase = .issued) = true then some c
      else s.detachedBelow sel c k x := by
  unfold State.detachedBelow
  rcases lt_trichotomy x k with h | rfl | h
  · have : x.val < k.val + 1 := Nat.lt_succ_of_lt h
    simp [Fin.lt_def.mp h, this, ne_of_lt h]
  · simp
  · have h1 : ¬x.val < k.val := not_lt.mpr (Fin.le_def.mp (le_of_lt h))
    have h2 : ¬x.val < k.val + 1 := not_lt.mpr (Fin.lt_def.mp h)
    simp [h1, h2, ne_of_gt h]

theorem detachedBelow_succ_of_not (c : DetachCause) (h : ((s.entry k).any fun e => sel e && e.phase = .issued) = false) :
    s.detachedBelow sel c (k + 1) = s.detachedBelow sel c k := by
  funext x
  rw [detachedBelow_succ, if_neg]
  rw [h]
  simp

theorem detachedBelow_succ_of (c : DetachCause) (h : ((s.entry k).any fun e => sel e && e.phase = .issued) = true) :
    s.detachedBelow sel c (k + 1) = fun x => if x = k then some c else s.detachedBelow sel c k x := by
  funext x
  rw [detachedBelow_succ, h]
  simp

end

/-! ### One entry's turn -/

section
variable {sel : Entry → Bool} (hsel : SteadySelection sel) (a : Option Status) (c : DetachCause)
include hsel

/-- The three ways a turn goes: the entry is passed over, detached or freed. -/
theorem settleEntry_turn {s u : State} {k : EntryIdx} (l : List Settled) (hk : s.entryKept u k = true) :
    (s.claimed sel k = none ∧ s.unissued sel k = false ∧ ((s.entry k).any fun e => sel e && e.phase = .issued) = false ∧
      settleEntry (fun _ e => sel e) a c (u, l) k = (u, l)) ∨
    ∃ e f, s.entry k = some e ∧ u.entry k = some f ∧ e.KeptAs f ∧ sel e = true ∧ e.phase.live = true ∧
      ((e.phase = .issued ∧ f.phase = .issued ∧
        settleEntry (fun _ e => sel e) a c (u, l) k = ((u.answerWith a f).detachEntry k f c, l ++ [{ index := k, entry := f }])) ∨
       (e.phase ≠ .issued ∧ s.unissued sel k = true ∧
        settleEntry (fun _ e => sel e) a c (u, l) k = ((u.answerWith a f).freeEntry k, l ++ [{ index := k, entry := f }]))) := by
  rw [entryKept_iff] at hk
  cases hs : s.entry k with
  | none =>
    have hu : u.entry k = none := by cases hu : u.entry k <;> simp_all
    exact .inl ⟨by simp [State.claimed, hs], by simp [State.unissued, hs], by simp, settleEntry_of_pass _ a c u l k (by simp [hu])⟩
  | some e =>
    obtain ⟨f, hu⟩ : ∃ f, u.entry k = some f := by cases hu : u.entry k <;> simp_all
    have hkept : e.KeptAs f := by simpa [hs, hu] using hk
    have hsf := hsel e f hkept
    by_cases hse : sel e = true
    · rcases f.phase.cases_live with ⟨hd, -⟩ | ⟨hp, hl⟩ | ⟨hp, hl⟩
      · have hde : e.phase.isDetached = true := hkept.isDetached ▸ hd
        refine .inl ⟨claimed_eq_none_iff.mpr fun g hg => ?_, ?_, ?_, settleEntry_of_pass _ a c u l k fun g hg => ?_⟩
        · cases hs.symm.trans hg
          rcases e.phase.cases_live with ⟨-, h⟩ | ⟨h, -⟩ | ⟨h | h, -⟩
          · exact .inr h
          all_goals rw [h] at hde; cases hde
        · cases hpe : e.phase <;> simp_all [State.unissued, Phase.isDetached]
        · cases hpe : e.phase <;> simp_all [Phase.isDetached]
        · cases hu.symm.trans hg
          exact .inr hd
      · refine .inr ⟨e, f, rfl, hu, hkept, hse, hkept.live ▸ hl, .inl ⟨hkept.issued.mp hp, hp, ?_⟩⟩
        exact settleEntry_of_issued (fun _ e => sel e) a c u l k hu (hsf.trans hse) hp
      · have hni : e.phase ≠ .issued := fun he => by
          rcases hp with hp | hp <;> simpa [hp] using hkept.issued.mpr he
        refine .inr ⟨e, f, rfl, hu, hkept, hse, hkept.live ▸ hl, .inr ⟨hni, ?_, ?_⟩⟩
        · have hle := hkept.live ▸ hl
          cases hpe : e.phase <;> simp_all [State.unissued, Phase.live]
        · exact settleEntry_of_unissued (fun _ e => sel e) a c u l k hu (hsf.trans hse) hp
    · have hse : sel e = false := by simpa using hse
      refine .inl ⟨claimed_eq_none_iff.mpr fun g hg => ?_, by simp [State.unissued, hs, hse], by simp [hse],
        settleEntry_of_pass _ a c u l k fun g hg => ?_⟩
      · cases hs.symm.trans hg
        exact .inl hse
      · cases hu.symm.trans hg
        exact .inl (hsf.trans hse)

end

/-! ### Answers and the list of what is settled -/

theorem sentTo_answer (s : State) (e : Entry) (st : Status) (i : Initiator) :
    (s.answer e st []).sentTo i = s.sentTo i ++ (if e.initiator = i then e.tag.map fun t => ToInitiator.response t st [] else none).toList := by
  unfold State.answer
  cases he : e.tag with
  | none => simp
  | some t =>
    simp only [sentTo_send]
    by_cases hi : e.initiator = i <;> simp [hi]

/-- The claim has taken the entries of `s` below `n`, so far as `u` with the list `l`. -/
structure ClaimedBelow (s : State) (sel : Entry → Bool) (st : Status) (n : Nat) (u : State) (l : List Settled) : Prop where
  kept : ∀ y : EntryIdx, n ≤ y.val → s.entryKept u y = true
  list : List.Forall₂ (fun b b' => b.index = b'.index ∧ b'.entry.KeptAs b.entry ∧ b'.entry.phase.live = true) l ((entryIndices.take n).filterMap (s.claimed sel))
  sent : ∀ i, u.sentTo i = s.sentTo i ++ (entryIndices.take n).filterMap (s.answerFor i sel st)

/-- A turn leaves the entries that are still to come as they were. -/
theorem settleEntry_keeps {sel : Entry → Bool} (hsel : SteadySelection sel) (a : Option Status) (c : DetachCause) {s u : State}
    {k : EntryIdx} (l : List Settled) (h : ∀ y : EntryIdx, k.val ≤ y.val → s.entryKept u y = true) (y : EntryIdx) (hy : k.val + 1 ≤ y.val) :
    s.entryKept (settleEntry (fun _ e => sel e) a c (u, l) k).1 y = true :=
  entryKept_trans (h y (Nat.le_of_succ_le hy))
    ((settleEntry_settles hsel a c l (h k (Nat.le_refl _))).2 y fun he => by rw [he] at hy; exact absurd hy (Nat.not_succ_le_self _))

/-- The whole of a claim that answers: what it names and whom it answers. -/
theorem claim_claimedBelow {sel : Entry → Bool} (hsel : SteadySelection sel) (st : Status) (c : DetachCause) (s : State) :
    ClaimedBelow s sel st 64 (s.claim (fun _ e => sel e) (some st) c).1 (s.claim (fun _ e => sel e) (some st) c).2 := by
  refine claim_induction (P := ClaimedBelow s sel st) ⟨fun y _ => entryKept_refl s y, .nil, fun i => by simp⟩ fun k u l h => ?_
  obtain ⟨hkept, hlist, hsent⟩ := h
  have hkept' := settleEntry_keeps hsel (some st) c l hkept
  rcases settleEntry_turn hsel (some st) c l (hkept k (Nat.le_refl _)) with
    ⟨hnone, -, -, hturn⟩ | ⟨e, f, hs, -, hk, hse, hl, hturn⟩
  · rw [hturn] at hkept' ⊢
    refine ⟨hkept', ?_, fun i => ?_⟩
    · rw [take_entryIndices_succ, List.filterMap_append]
      simpa [hnone] using hlist
    · rw [take_entryIndices_succ, List.filterMap_append, hsent]
      simp [answerFor_of_unclaimed hnone]
  · have hcar := carriedBy_iff.mp hk.1
    have hanswer : ∀ i, (u.answer f st []).sentTo i = s.sentTo i ++ (entryIndices.take (k + 1)).filterMap (s.answerFor i sel st) := fun i => by
      rw [sentTo_answer, hsent, take_entryIndices_succ, List.filterMap_append, hcar.1, hcar.2.1, ← answerFor_of_live hs hse hl, List.append_assoc]
      cases hsome : s.answerFor i sel st k <;> simp [hsome]
    have hlist' : List.Forall₂ (fun b b' => b.index = b'.index ∧ b'.entry.KeptAs b.entry ∧ b'.entry.phase.live = true) (l ++ [{ index := k, entry := f }])
        ((entryIndices.take (k + 1)).filterMap (s.claimed sel)) := by
      rw [take_entryIndices_succ, List.filterMap_append]
      refine List.rel_append hlist ?_
      simpa [claimed_of_live hs hse hl, hl] using hk
    rcases hturn with ⟨-, -, hturn⟩ | ⟨-, -, hturn⟩ <;> rw [hturn] at hkept' ⊢
    · exact ⟨hkept', hlist', hanswer⟩
    · refine ⟨hkept', hlist', fun i => ?_⟩
      rw [← hanswer]
      simp only [State.sentTo, freeEntry_links]
      rfl

/-! ### The claim under the tracker's laws -/

theorem outliving_keptAs (f : Entry) (gone : EntryIdx → Bool) : f.KeptAs (f.outliving gone) := by
  refine ⟨by simp [carriedBy_iff, Entry.outliving], ?_⟩
  by_cases h : f.phase = .waiting ∧ f.predecessors.all gone = true
  · exact .inr ⟨h.1, by simp only [Entry.outliving, if_pos h]⟩
  · exact .inl (by simp only [Entry.outliving, if_neg h])

/-- The claim has taken the entries of `s` below `n`, exactly so far as `u` with the list `l`. -/
structure ClaimedExactly (s : State) (sel : Entry → Bool) (c : DetachCause) (n : Nat) (u : State) (l : List Settled) : Prop where
  laws : u.TrackerLaws
  settled : SettledAs s u (s.goneBelow sel n) (s.detachedBelow sel c n)
  list : List.Forall₂ (fun b b' => b.index = b'.index ∧ b.entry = b'.entry.outliving (s.goneBelow sel b'.index) ∧
    b'.entry.phase.live = true) l
    ((entryIndices.take n).filterMap (s.claimed sel))

/-- The whole of a claim, exactly (R9, R10, R15). -/
theorem claim_claimedExactly {sel : Entry → Bool} (hsel : SteadySelection sel) (st : Status) (c : DetachCause) {s : State} (hs : s.TrackerLaws) :
    ClaimedExactly s sel c 64 (s.claim (fun _ e => sel e) (some st) c).1 (s.claim (fun _ e => sel e) (some st) c).2 := by
  have hzero : ClaimedExactly s sel c 0 s [] := by
    have hgone : s.goneBelow sel 0 = fun _ => false := funext fun x => by simp [State.goneBelow]
    have hdet : s.detachedBelow sel c 0 = fun _ => none := funext fun x => by simp [State.detachedBelow]
    exact ⟨hs, by rw [hgone, hdet]; exact settledAs_refl hs, .nil⟩
  refine claim_induction (P := ClaimedExactly s sel c) hzero fun k u l h => ?_
  obtain ⟨hu, hsettled, hlist⟩ := h
  have hdet : s.detachedBelow sel c k k = none := by simp [State.detachedBelow]
  have hentry : u.entry k = (s.entry k).map (·.outliving (s.goneBelow sel k)) := by
    rw [hsettled.entry, goneBelow_self, hdet]
    rfl
  have hkept : s.entryKept u k = true := by
    rw [entryKept_iff, hentry]
    cases s.entry k with
    | none => exact .none
    | some e => exact .some (outliving_keptAs e _)
  have hlaws := (settleEntry_moves (fun _ => True) (fun _ e => sel e) (some st) c (by simp) (u, l) k).keeps
    (P := State.TrackerLaws) (fun _ _ hm => hm.trackerLaws) hu
  rcases settleEntry_turn hsel (some st) c l hkept with
    ⟨hnone, hfree, hissued, hturn⟩ | ⟨e, f, hx, hf, -, hse, hl, hturn⟩
  · rw [hturn] at hlaws ⊢
    refine ⟨hlaws, ?_, ?_⟩
    · rw [goneBelow_succ_of_not hfree, detachedBelow_succ_of_not c hissued]
      exact hsettled
    · rw [take_entryIndices_succ, List.filterMap_append]
      simpa [hnone] using hlist
  · obtain rfl : e.outliving (s.goneBelow sel k) = f := by
      rw [hentry, hx] at hf
      exact Option.some.inj hf
    have hlist' : List.Forall₂ (fun b b' => b.index = b'.index ∧ b.entry = b'.entry.outliving (s.goneBelow sel b'.index) ∧
        b'.entry.phase.live = true) (l ++ [{ index := k, entry := e.outliving (s.goneBelow sel k) }]) ((entryIndices.take (k + 1)).filterMap (s.claimed sel)) := by
      rw [take_entryIndices_succ, List.filterMap_append]
      refine List.rel_append hlist ?_
      simp [claimed_of_live hx hse hl, hl]
    have hanswered := hsettled.congr (answerWith_tracker u (some st) (e.outliving (s.goneBelow sel k))) fun d =>
      congrArg (TargetPort.queueOf · d) (answer_target u (e.outliving (s.goneBelow sel k)) st [])
    rcases hturn with ⟨hp, -, hturn⟩ | ⟨-, hfree, hturn⟩ <;> rw [hturn] at hlaws ⊢
    · refine ⟨hlaws, ?_, hlist'⟩
      have hfree : s.unissued sel k = false := by simp [State.unissued, hx, hp]
      rw [goneBelow_succ_of_not hfree, detachedBelow_succ_of c (by simp [hx, hse, hp])]
      exact hanswered.detach hx (goneBelow_self s sel k) c
    · refine ⟨hlaws, ?_, hlist'⟩
      have hissued : ((s.entry k).any fun e => sel e && e.phase = .issued) = false := by
        rw [State.unissued, hx] at hfree
        rw [hx]
        cases hp : e.phase <;> simp_all
      rw [goneBelow_succ_of hfree, detachedBelow_succ_of_not c hissued]
      refine hanswered.free hs (trackerLaws_answer hu _ st []) ((entry_answerWith ..).trans hf) (goneBelow_self s sel k)
        (fun p hp => lt_of_goneBelow hp) fun y g hg hd => ?_
      unfold State.detachedBelow at hd
      rw [hg] at hd
      by_cases hi : g.phase = .issued
      · exact hi
      · simp [hi] at hd

end Sys2Proof.Machine
end

section
/-!
O21: the expiry claim, its notices and its reports (R18, R127 to R130).
-/

namespace Sys2Proof.Machine

/-! ### Lists that agree element by element -/

theorem map_eq_of_forall₂ {α β : Type} {R : α → α → Prop} {f g : α → β} (hfg : ∀ a b, R a b → f a = g b) {l m : List α}
    (h : List.Forall₂ R l m) : l.map f = m.map g := by
  induction h with
  | nil => rfl
  | cons hab _ ih => rw [List.map_cons, List.map_cons, hfg _ _ hab, ih]

/-! ### What the claim names, in the words of the statement -/

/-- The TIMEOUT record of an entry of `s` found in the state `found` gives (R130). -/
def timeoutRecord (found : EntryIdx → Entry → ExpiryState) (b : Settled) : FaultReport :=
  { kind := .timeout, source := .initiator b.entry.initiator, tag := b.entry.tag, entry := some b.index
    address := some b.entry.requestAddress, expiryState := some (found b.index b.entry) }

/-- Reading something off what the claim names is reading it off the live entries that it selects. -/
theorem map_claimed {β : Type} (s : State) (sel : Entry → Bool) (g : Settled → β) :
    (entryIndices.filterMap (s.claimed sel)).map g = entryIndices.filterMap fun x => (s.entry x).bind fun e =>
      if sel e && e.phase.live then some (g { index := x, entry := e }) else none := by
  rw [List.map_filterMap]
  refine List.filterMap_congr fun x _ => ?_
  unfold State.claimed
  cases s.entry x with
  | none => rfl
  | some e => by_cases h : (sel e && e.phase.live) = true <;> simp

/-- The state found, as far as it does not hang on the order of the turns. -/
def issuedOr (k : ExpiryState) : ExpiryState := if k = .issued then .issued else .ready

/-- A record of an entry as its turn finds it shows the entry's transaction, and ISSUED exactly for an ISSUED entry. -/
theorem timeoutFault_of_keptAs {b b' : Settled} (hi : b.index = b'.index) (hk : b'.entry.KeptAs b.entry) (hl : b'.entry.phase.live = true) :
    { timeoutFault b with expiryState := (timeoutFault b).expiryState.map issuedOr } =
      timeoutRecord (fun _ e => if e.phase = .issued then .issued else .ready) b' := by
  have hcar := carriedBy_iff.mp hk.1
  have hstate : b.entry.phase.expiryState.map issuedOr = some (if b'.entry.phase = .issued then .issued else .ready) := by
    have hissued := hk.issued
    have hlive := hk.live.trans hl
    by_cases h : b'.entry.phase = .issued
    · rw [hissued.mpr h, if_pos h]; rfl
    · rw [if_neg h]
      rw [← not_congr hissued] at h
      cases hp : b.entry.phase <;> simp_all [Phase.expiryState, issuedOr, Phase.live]
  simp only [timeoutFault, timeoutRecord, hi, hcar.1, hcar.2.1, hcar.2.2.2.1, hstate]

theorem timeoutReport_of_keptAs {b b' : Settled} (hk : b'.entry.KeptAs b.entry) : timeoutReport b = timeoutReport b' := by
  have hq : b.entry.phase.timeoutQualifier = b'.entry.phase.timeoutQualifier := by
    simp only [Phase.timeoutQualifier, hk.issued]
  rw [timeoutReport, timeoutReport, hq, (carriedBy_iff.mp hk.1).1]

/-! ### The expiry claim -/

/-- The deadline monitor names the entry (R127). -/
def State.expiring (s : State) (e : Entry) : Bool := decide (e.expiryTick = some s.timebase.count)

theorem expiring_steady (s : State) : SteadySelection s.expiring := fun e f h => by
  obtain ⟨-, -, -, -, -, -, -, -, -, hexpiry, -⟩ := carriedBy_iff.mp h.1
  rw [State.expiring, State.expiring, hexpiry]

theorem expiryClaim_eq (s : State) : s.expiryClaim = s.claim (fun _ e => s.expiring e) (some .errTimeout) .timeout := by
  have hsel : (fun (_ : EntryIdx) (e : Entry) => e.expiryTick == some s.timebase.count) = fun _ e => s.expiring e := by
    funext _ e
    rw [State.expiring, Bool.eq_iff_iff, beq_iff_eq, decide_eq_true_eq]
  rw [State.expiryClaim, hsel]

/-- What the expiry claim takes, and whom it answers (R11, R18). -/
theorem expiryClaim_claims (s : State) :
    List.Forall₂ (fun b b' => b.index = b'.index ∧ b'.entry.KeptAs b.entry ∧ b'.entry.phase.live = true) s.expiryClaim.2
      (entryIndices.filterMap (s.claimed s.expiring)) ∧
    ∀ i, s.expiryClaim.1.sentTo i = s.sentTo i ++ s.answersTo i s.expiring .errTimeout := by
  obtain ⟨-, hlist, hsent⟩ := claim_claimedBelow (expiring_steady s) .errTimeout .timeout s
  rw [expiryClaim_eq]
  rw [take_entryIndices_all] at hlist
  exact ⟨hlist, fun i => by rw [hsent, take_entryIndices_all, answersTo_eq]⟩

/-- Where no live entry is selected a claim does nothing. -/
theorem claim_of_none {s : State} {sel : Entry → Bool} (a : Option Status) (c : DetachCause) (h : ∀ x, s.claimed sel x = none) :
    s.claim (fun _ e => sel e) a c = (s, []) := by
  have hall := claim_induction (s := s) (sel := fun _ e => sel e) (a := a) (c := c) (P := fun _ u l => u = s ∧ l = []) ⟨rfl, rfl⟩
    fun k u l ⟨hu, hl⟩ => by
      subst hu hl
      have hpass := settleEntry_of_pass (fun _ e => sel e) a c u [] k fun e he =>
        ((claimed_eq_none_iff.mp (h k)) e he).imp id fun hlive => by cases hp : e.phase <;> simp_all [Phase.live, Phase.isDetached]
      rw [hpass]
      exact ⟨rfl, rfl⟩
  exact Prod.ext hall.1 hall.2

/-- A claim that changed nothing has no notices. -/
theorem notices_self (s : State) : State.notices s s = s := by simp [State.notices]

/-- With no entry named nothing happens (R127). -/
theorem expire_of_none {s : State} (h : entryIndices.filterMap (s.claimed s.expiring) = []) : s.expire = s := by
  have hnone : ∀ x, s.claimed s.expiring x = none := fun x => List.filterMap_eq_nil_iff.mp h x (mem_entryIndices x)
  rw [State.expire, expiryClaim_eq, claim_of_none _ _ hnone]
  exact notices_self s

/-! ### What the claim leaves, exactly -/

theorem freed_eq_unissued (s : State) (sel : Entry → Bool) (x : EntryIdx) :
    ((s.entry x).any fun f => sel f && f.phase.live && f.phase ≠ .issued) = s.unissued sel x := by
  unfold State.unissued
  cases s.entry x with
  | none => rfl
  | some f => cases hp : f.phase <;> simp [hp, Phase.live]

theorem settlesLive_of_claimedExactly {s u : State} {sel : Entry → Bool} {c : DetachCause} {l : List Settled}
    (h : ClaimedExactly s sel c 64 u l) : s.SettlesLive u sel c := by
  obtain ⟨hentry, hqueue⟩ := h.settled
  have hgone : s.goneBelow sel 64 = s.unissued sel := funext fun x => by simp [State.goneBelow, x.isLt]
  rw [hgone] at hentry hqueue
  refine ⟨fun y => (hentry y).trans ?_, hqueue .high, hqueue .normal⟩
  have hdet : ∀ f, s.entry y = some f → s.detachedBelow sel c 64 y = if sel f && f.phase = .issued then some c else none := fun f hf => by
    simp [State.detachedBelow, hf, y.isLt]
  cases hy : s.entry y with
  | none => rfl
  | some f =>
    rw [hdet f hy, Option.map_some, Option.map_some]
    beta_reduce
    cases (if sel f && f.phase = .issued then some c else none : Option DetachCause) <;> rfl

/-- The state the claim finds an entry in as its turn comes (R175). -/
def State.foundState (s : State) (sel : Entry → Bool) (x : EntryIdx) (e : Entry) : ExpiryState :=
  if e.phase = .issued then .issued
  else if e.phase = .ready ∨ (e.predecessors.all fun p => p < x && s.unissued sel p) = true then .ready
  else .waiting

theorem timeoutFault_of_outliving {s : State} {sel : Entry → Bool} {b b' : Settled} (hi : b.index = b'.index)
    (he : b.entry = b'.entry.outliving (s.goneBelow sel b'.index)) (hl : b'.entry.phase.live = true) :
    timeoutFault b = timeoutRecord (s.foundState sel) b' := by
  have hgone : s.goneBelow sel b'.index = fun p => p < b'.index && s.unissued sel p := rfl
  have hstate : b.entry.phase.expiryState = some (s.foundState sel b'.index b'.entry) := by
    rw [he, hgone, State.foundState]
    cases hp : b'.entry.phase with
    | waiting =>
      by_cases hall : (b'.entry.predecessors.all fun p => p < b'.index && s.unissued sel p) = true
      · simp only [Entry.outliving, hp, hall, true_and, if_true, or_true, reduceCtorEq, if_false, Phase.expiryState]
      · simp only [Entry.outliving, hp, hall, and_false, or_false, reduceCtorEq, if_false, Phase.expiryState]
    | ready => simp [Entry.outliving, hp, Phase.expiryState]
    | issued => simp [Entry.outliving, hp, Phase.expiryState]
    | detached => rw [hp] at hl; cases hl
  rw [timeoutFault, timeoutRecord, hi, hstate, he]
  rfl

/-! ### The claim, its notices and its reports -/

section
variable {s u v t : State} {l : List Settled} (hu : OnlyClaims s u) (hn : TakesNotices s u v) (hr : ReportsTimeouts v t l)
include hn hr

omit hn in
theorem startsRecheck_of_reports : s.startsRecheck t = s.startsRecheck v := by
  rw [State.startsRecheck, State.startsRecheck, freeCount_of_tracker hr.tracker, hr.target]

theorem takesDetachedCount_of_reports : s.TakesDetachedCount t := by
  have hcount := hn.detachedCount
  rw [State.TakesDetachedCount, detachedCount_of_tracker hr.tracker, hr.target, hr.flag .targetState (by simp) (by simp) (by simp)]
  exact hcount

include hu

/-- The check of heads that follows the claim, each port standing as its answers leave it. -/
theorem checks_of_reports {answers : Initiator → List ToInitiator} (hsent : ∀ i, u.sentTo i = s.sentTo i ++ answers i) :
    s.Checks t (s.startsRecheck t) (s.viewAfter answers) (l.map timeoutReport) := by
  have hview : ∀ i, u.view i = s.viewAfter answers i := fun i => by
    rw [State.viewAfter, ← hsent, State.view, State.view, port_of_ports hu.ports, State.head, State.head, hu.admission]
  have hchecks : ∀ i, s.checksAfter u v i = (s.startsRecheck t && decide ((s.viewAfter answers i).status ≠ .noHead)) := fun i => by
    rw [State.checksAfter, startsRecheck_of_reports hr, hview]
  refine ⟨fun i => ?_, ?_, counts_of_tallies fun hm => ?_⟩
  · rw [hr.view, hn.view, hview, afterCheck_congr hr.verdict, hchecks]
  · rw [hr.flag .budgetWait (by simp) (by simp) (by simp), hn.budgetWait]
    simp only [hchecks, hview, entersBudgetWait_congr hr.verdict, State.flag, hu.interrupts]
  · have hclaim : Tallies s u fun _ => 0 := Tallies.of_monitor hu.monitor
    have hnotices := hn.tallies (hclaim.mayFreeze hm)
    have hreports := hr.tallies (hnotices.mayFreeze (hclaim.mayFreeze hm))
    refine ((hclaim.trans hnotices).trans hreports).congr fun c => ?_
    rw [hnotices.takenBy, hclaim.takenBy, hclaim.takenBy, takenBy_append, Nat.zero_add, Nat.add_comm]
    simp only [hchecks, hview, refusalReports_congr hr.verdict]

theorem faultLog_of_reports : t.faultLog = s.faultLog ++
    ((l.map timeoutFault).take (16 - s.faultLog.length)).map fun r => { report := r, tick := s.timebase.count } := by
  rw [hr.faultLog, hn.faultLog, hn.timebase, hu.faultLog, hu.timebase]

theorem faultFlags_of_reports :
    t.flag .fault = (s.flag .fault || decide (s.faultLog.length < 16 ∧ l.length ≠ 0)) ∧
      t.flag .faultLost = (s.flag .faultLost || decide (16 < s.faultLog.length + l.length ∧ l.length ≠ 0)) := by
  have hflag : ∀ c, u.flag c = s.flag c := fun c => by simp only [State.flag, hu.interrupts]
  rw [hr.fault, hr.faultLost, hn.flag .fault (by simp) (by simp) (by simp), hn.flag .faultLost (by simp) (by simp) (by simp), hflag, hflag,
    hn.faultLog, hu.faultLog]
  exact ⟨rfl, rfl⟩

end

/-- What the expiry claim with its notices and reports may change. -/
theorem expire_frame (s : State) : s.Frame s.expire (Piece.ofClaim ++ Piece.ofNotices ++ Piece.ofFault) := by
  have hall := frame_trans (frame_trans (expiryClaim_onlyClaims s).frame (notices_frame s s.expiryClaim.1))
    (foldl_reportTimeout_frame s.expiryClaim.2 (State.notices s s.expiryClaim.1))
  refine frame_mono hall fun p hp => ?_
  have hrecheck : ∀ q, q ∈ Piece.ofRecheck → q ∈ Piece.ofNotices := fun q hq => List.mem_cons_of_mem _ (List.mem_cons_of_mem _ hq)
  have hlinks : ∀ q, q ∈ initiators.map Piece.link → q ∈ Piece.ofNotices := fun q hq => hrecheck q (by
    rw [Piece.ofRecheck]
    exact List.mem_append_left _ (List.mem_append_right _ hq))
  simp only [List.mem_append] at hp ⊢
  rcases hp with ((hp | hp) | hp) | hp | hp
  · exact .inl (.inl hp)
  · exact .inl (.inr (hlinks p hp))
  · exact .inl (.inr hp)
  · exact .inr hp
  · exact .inl (.inr (hrecheck p hp))

/-! ### O21 -/

theorem sampleOwed_of_frame {s t : State} {l : List Piece} (h : s.Frame t l) (hl : Piece.sampleOwed ∉ l) : t.sampleOwed = s.sampleOwed :=
  of_decide_eq_true (h.2 .sampleOwed hl)

theorem exec_expiryClaim {s : State} (hr : s.rstN = true) (ho : s.sampleOwed = false) : exec .expiryClaim s = .next s.expire := by
  have hnot : Piece.sampleOwed ∉ Piece.ofClaim ++ Piece.ofNotices ++ Piece.ofFault := by
    simp only [Piece.ofClaim, Piece.ofNotices, Piece.ofRecheck, Piece.ofReport, Piece.ofFault, List.mem_append, List.mem_cons, List.mem_map,
      reduceCtorEq, and_false, exists_false, List.not_mem_nil, or_self, not_false_eq_true]
  have hsame : s.expire.sampleOwed = false := (sampleOwed_of_frame (expire_frame s) hnot).trans ho
  have hexec : exec .expiryClaim s = .next (s.outOfReset State.takeExpiry) := rfl
  rw [hexec, State.outOfReset_high s _ hr, State.takeExpiry, offerSample_of_not_owed _ hsame]

/-- The records a full log has room for, with the tick (R177). -/
theorem stored_records {s t : State} {l : List Settled}
    (h : t.faultLog = s.faultLog ++ ((l.map timeoutFault).take (16 - s.faultLog.length)).map fun r => { report := r, tick := s.timebase.count }) :
    (t.faultLog.drop s.faultLog.length).map (fun f => (f.report, f.tick)) =
      ((l.map timeoutFault).take (16 - s.faultLog.length)).map fun r => (r, s.timebase.count) := by
  rw [h, List.drop_left, List.map_map]
  rfl

/-- Settles O21: the claim entry by entry, then its notices, then its reports. -/
theorem expiryClaimTimesOut : Obligations.ExpiryClaimTimesOut := by
  intro s hr ho
  obtain ⟨hlist, hsent⟩ := expiryClaim_claims s
  have hu := expiryClaim_onlyClaims s
  have hn := notices_takesNotices hu
  have ht := foldl_reportTimeout s.expiryClaim.2 (State.notices s s.expiryClaim.1)
  have hexact : s.TrackerLaws → ClaimedExactly s s.expiring .timeout 64 s.expiryClaim.1 s.expiryClaim.2 := fun hs => by
    rw [expiryClaim_eq]
    exact claim_claimedExactly (expiring_steady s) .errTimeout .timeout hs
  have hsettled : ∀ x, s.settledBy s.expiryClaim.1 s.expiring .timeout x = true := by
    rw [expiryClaim_eq]
    exact claim_settledBy (expiring_steady s) (some .errTimeout) .timeout s
  have hexec := exec_expiryClaim hr ho
  have hframe := expire_frame s
  have hidle := expire_of_none (s := s)
  have hexpire : s.expire = s.expiryClaim.2.foldl State.reportTimeout (State.notices s s.expiryClaim.1) := rfl
  rw [← hexpire] at ht
  generalize s.expiryClaim.1 = u, State.notices s s.expiryClaim.1 = v, s.expiryClaim.2 = l, s.expire = t at *
  have htracker : t.tracker = u.tracker := ht.tracker.trans hn.tracker
  have hqueue : ∀ c, t.target.queueOf c = u.target.queueOf c := fun c => by rw [ht.target, hn.queueOf]
  have hlog := faultLog_of_reports hu hn ht
  have hnew := stored_records hlog
  obtain ⟨hfault, hlost⟩ := faultFlags_of_reports hu hn ht
  intro named freed records stored toIssued count
  have hrecords : ∀ found, (entryIndices.filterMap (s.claimed s.expiring)).map (timeoutRecord found) = records found :=
    fun found => map_claimed s s.expiring (timeoutRecord found)
  have hcount : l.length = count := by
    rw [hlist.length_eq, ← List.length_map (timeoutRecord fun _ _ => .ready), hrecords]
  refine ⟨fun h0 => ?_, t, hexec, fun x => settledBy_trans (hsettled x) (entryKept_of_tracker htracker x), fun hs => ?_,
    takesDetachedCount_of_reports hn ht, ⟨_, hlog.symm⟩, ⟨?_, fun hs => ?_⟩, hcount ▸ hfault, hcount ▸ hlost, ?_, hframe⟩
  · rw [hexec, hidle (List.length_eq_zero_iff.mp (by rw [← hlist.length_eq, hcount, h0]))]
  · obtain ⟨hentry, hhigh, hnormal⟩ := settlesLive_of_claimedExactly (hexact hs)
    exact ⟨fun y => (entry_of_tracker htracker y).trans (hentry y), (hqueue .high).trans hhigh, (hqueue .normal).trans hnormal⟩
  · rw [hnew, List.map_map, show stored _ = ((records _).take _).map _ from rfl, ← hrecords,
      ← map_eq_of_forall₂ (fun b b' h => timeoutFault_of_keptAs h.1 h.2.1 h.2.2) hlist, List.map_take, List.map_take, List.map_map, List.map_map]
    rfl
  · obtain ⟨-, -, hfound⟩ := hexact hs
    rw [take_entryIndices_all] at hfound
    rw [hnew, map_eq_of_forall₂ (fun b b' h => timeoutFault_of_outliving h.1 h.2.1 h.2.2) hfound, hrecords]
    have hstate : s.foundState s.expiring = fun x e => if e.phase = .issued then .issued
        else if e.phase = .ready ∨ (e.predecessors.all fun p => p < x && freed p) = true then .ready else .waiting := by
      funext x e
      simp only [State.foundState, ← freed_eq_unissued]
      rfl
    rw [hstate]
  · have hchecks := checks_of_reports hu hn ht hsent
    rw [map_eq_of_forall₂ (fun b b' h => timeoutReport_of_keptAs h.2.1) hlist, map_claimed] at hchecks
    exact hchecks

end Sys2Proof.Machine
end

section
/-!
What every move keeps of the tags (R42), and O56.
-/

namespace Sys2Proof.Machine

/-- Entry `x` binds tag `g` of initiator `i` (R42). -/
def State.binds (s : State) (x : EntryIdx) (i : Initiator) (g : Tag) : Prop :=
  ∃ e, s.entry x = some e ∧ e.initiator = i ∧ e.tag = some g

/-- The law of the tags, said of what entries bind. -/
structure State.TagsApart (s : State) : Prop where
  queued : ∀ i, ((s.port i).queue.map Request.tag).Nodup
  unbound : ∀ i, ∀ q ∈ (s.port i).queue, ∀ x, ¬s.binds x i q.tag
  bound : ∀ i g x y, s.binds x i g → s.binds y i g → x = y

theorem tagsDistinct_iff (s : State) : s.TagsDistinct ↔ s.TagsApart := by
  constructor
  · rintro ⟨hqueued, hunbound, hbound⟩
    refine ⟨hqueued, ?_, ?_⟩
    · rintro i q hq x ⟨e, he, hi, hg⟩
      exact hunbound i q hq x e he hi hg
    · rintro i g x y ⟨e, he, hi, hg⟩ ⟨f, hf, hj, hk⟩
      by_contra hxy
      exact hbound x y e he f hf hxy (hi.trans hj.symm) (by simp [hg]) (hg.trans hk.symm)
  · rintro ⟨hqueued, hunbound, hbound⟩
    refine ⟨hqueued, fun i q hq x e he hi hg => hunbound i q hq x ⟨e, he, hi, hg⟩, fun x y e he f hf hxy hi ht hg => hxy ?_⟩
    obtain ⟨g, hk⟩ := Option.isSome_iff_exists.mp ht
    exact hbound f.initiator g x y ⟨e, he, hi, hk⟩ ⟨f, hf, rfl, hg.symm.trans hk⟩

/-- Requests that leave and bindings that end keep the tags apart. -/
theorem State.TagsApart.of_fewer {s t : State} (h : s.TagsApart) (hq : ∀ i, (t.port i).queue.Sublist (s.port i).queue)
    (hb : ∀ x i g, t.binds x i g → s.binds x i g) : t.TagsApart where
  queued i := (h.queued i).sublist ((hq i).map _)
  unbound i q hm x hx := h.unbound i q ((hq i).subset hm) x (hb x i q.tag hx)
  bound i g x y hx hy := h.bound i g x y (hb x i g hx) (hb y i g hy)

/-! ### What each event of the tracker binds -/

theorem binds_of_entry {s t : State} {x : EntryIdx} (h : t.entry x = s.entry x) (i : Initiator) (g : Tag) :
    t.binds x i g ↔ s.binds x i g := by
  simp only [State.binds, h]

/-- A freeing binds nothing (R9). -/
theorem binds_of_freeEntry {s : State} {x y : EntryIdx} {i : Initiator} {g : Tag} (h : (s.freeEntry x).binds y i g) : s.binds y i g := by
  obtain ⟨e, he, hi, hg⟩ := h
  obtain ⟨f, hf, hc, -⟩ := freeEntry_some he
  obtain ⟨hinitiator, htag, -⟩ := carriedBy_iff.mp hc
  exact ⟨f, hf, hinitiator.symm.trans hi, htag.symm.trans hg⟩

/-- An entry replaced by one that binds no more than it did binds nothing new. -/
theorem binds_of_setEntry {s : State} {x y : EntryIdx} {e f : Entry} {i : Initiator} {g : Tag}
    (h : (s.setEntry x (some f)).binds y i g) (hx : s.entry x = some e) (hi : f.initiator = e.initiator)
    (ht : f.tag = none ∨ f.tag = e.tag) : s.binds y i g := by
  obtain ⟨e', he', hi', hg⟩ := h
  rw [entry_setEntry] at he'
  split at he'
  · rename_i hxy
    subst hxy
    cases he'
    rcases ht with ht | ht
    · simp [ht] at hg
    · exact ⟨e, hx, hi.symm.trans hi', ht.symm.trans hg⟩
  · exact ⟨e', he', hi', hg⟩

/-- An allocation binds the request's tag and nothing else (R6). -/
theorem binds_of_allocate {s : State} {x y : EntryIdx} {i j : Initiator} {r : Request} {w : WindowIdx} {g : Tag}
    (h : (s.allocate x i r w).binds y j g) : (y = x ∧ j = i ∧ g = r.tag) ∨ s.binds y j g := by
  obtain ⟨e, he, hj, hg⟩ := h
  rw [entry_allocate] at he
  split at he
  · rename_i hyx
    cases he
    exact .inl ⟨hyx, hj.symm, (Option.some.inj hg).symm⟩
  · split at he
    · obtain ⟨f, hf, rfl⟩ := Option.map_eq_some_iff.mp he
      exact .inr ⟨f, hf, hj, hg⟩
    · exact .inr ⟨e, he, hj, hg⟩

/-! ### The check of the tags (R42) -/

/-- A tag is a duplicate when a live entry of the initiator, or a queued request, carries it. -/
theorem duplicateTag_iff (s : State) (i : Initiator) (g : Tag) : s.duplicateTag i g = true ↔
    (∃ x : EntryIdx, ∃ e ∈ s.entry x, e.initiator = i ∧ e.phase.live = true ∧ e.tag = some g) ∨ ∃ q ∈ (s.port i).queue, q.tag = g := by
  simp only [State.duplicateTag, Bool.or_eq_true, List.any_eq_true, mem_entryIndices, true_and, Option.any_eq_true, Bool.and_eq_true,
    beq_iff_eq, Option.mem_def, and_assoc]

/-- A tag that is no duplicate is bound by no entry, since only live entries bind (R1), and carried by no queued request. -/
theorem fresh_of_duplicateTag {s : State} (h : s.EntryShape) {i : Initiator} {g : Tag} (hd : s.duplicateTag i g = false) :
    (∀ x, ¬s.binds x i g) ∧ ∀ q ∈ (s.port i).queue, q.tag ≠ g := by
  obtain ⟨hentries, hqueue⟩ := not_or.mp fun hdup => Bool.false_ne_true (hd.symm.trans ((duplicateTag_iff s i g).mpr hdup))
  refine ⟨fun x ⟨e, he, hi, hg⟩ => hentries ⟨x, e, he, hi, (h x e he).1.mpr (by simp [hg]), hg⟩, fun q hq hg => hqueue ⟨q, hq, hg⟩⟩

/-! ### Every move -/

theorem queue_sublist_modPort (s : State) (i j : Initiator) (q : List Request) (h : q.Sublist (s.port i).queue) :
    ((s.modPort i fun p => { p with queue := q }).port j).queue.Sublist (s.port j).queue := by
  rw [port_modPort]
  split
  · rename_i hij; subst hij; exact h
  · exact List.Sublist.refl _

/-- A request of a fresh tag joins its queue (R41 step 8, R42). -/
theorem tagsApart_append {s : State} (h : s.TagsApart) {i : Initiator} {r : Request} (hbound : ∀ x, ¬s.binds x i r.tag)
    (hqueued : ∀ q ∈ (s.port i).queue, q.tag ≠ r.tag) : (s.modPort i fun p => { p with queue := p.queue ++ [r] }).TagsApart where
  queued j := by
    rw [port_modPort]
    split
    · rename_i hij
      subst hij
      rw [List.map_append, List.nodup_append]
      refine ⟨h.queued i, List.nodup_singleton _, fun g hg k hk => ?_⟩
      obtain ⟨q, hq, rfl⟩ := List.mem_map.mp hg
      rw [List.mem_singleton.mp hk]
      exact hqueued q hq
    · exact h.queued j
  unbound j q hq x := by
    rw [port_modPort] at hq
    split at hq
    · rename_i hij
      subst hij
      rcases List.mem_append.mp hq with hq | hq
      · exact h.unbound i q hq x
      · rw [List.mem_singleton.mp hq]
        exact hbound x
    · exact h.unbound j q hq x
  bound := h.bound

/-- The head of a queue becomes an entry, and its tag goes from the one to the other (R64). -/
theorem tagsApart_admission {s : State} (h : s.TagsApart) {i : Initiator} {r : Request} {rest : List Request}
    (hq : (s.port i).queue = r :: rest) (w : WindowIdx) (x : EntryIdx) :
    ((s.allocate x i r w).modPort i fun p => { p with queue := rest }).TagsApart := by
  have hnodup : r.tag ∉ rest.map Request.tag ∧ (rest.map Request.tag).Nodup := List.nodup_cons.mp (by simpa [hq] using h.queued i)
  have hport := port_of_ports (allocate_onlyClaims s x i r w).ports
  have hsub : ∀ j, (((s.allocate x i r w).modPort i fun p => { p with queue := rest }).port j).queue.Sublist (s.port j).queue := fun j => by
    rw [← hport j]
    exact queue_sublist_modPort _ i j rest (by rw [hport, hq]; exact List.sublist_cons_self r rest)
  have hhead : ∀ y, ¬s.binds y i r.tag := h.unbound i r (by simp [hq])
  refine ⟨fun j => (h.queued j).sublist ((hsub j).map _), fun j q hm y hy => ?_, fun j g y z (hy' : (s.allocate x i r w).binds y j g)
    (hz' : (s.allocate x i r w).binds z j g) => ?_⟩
  · rcases binds_of_allocate hy with ⟨-, rfl, hg⟩ | hy
    · rw [port_modPort, if_pos rfl] at hm
      exact hnodup.1 (hg ▸ List.mem_map_of_mem hm)
    · exact h.unbound j q ((hsub j).subset hm) y hy
  · rcases binds_of_allocate hy' with ⟨rfl, rfl, rfl⟩ | hy
    · rcases binds_of_allocate hz' with ⟨rfl, -, -⟩ | hz
      · rfl
      · exact absurd hz (hhead z)
    · rcases binds_of_allocate hz' with ⟨-, rfl, rfl⟩ | hz
      · exact absurd hy (hhead y)
      · exact h.bound j g y z hy hz

/-- Every move keeps the tags apart in a tracker that keeps its laws. -/
theorem Move.tagsApart {lost : Initiator → Prop} {s t : State} (h : Move lost s t) (hlaws : s.TrackerLaws) (hs : s.TagsApart) :
    t.TagsApart := by
  cases h with
  | calm h => exact hs.of_fewer (fun i => (h.queue i).sublist) fun x i g => (binds_of_entry (entry_of_tracker h.tracker x) i g).mp
  | append _ hd _ =>
    obtain ⟨hbound, hqueued⟩ := fresh_of_duplicateTag hlaws.1 hd
    exact tagsApart_append hs hbound hqueued
  | @admission i r rest w x hq _ _ => exact tagsApart_admission hs hq w x
  | @issue c x e _ _ hx =>
    exact hs.of_fewer (fun i => List.Sublist.refl _) fun y i g hy =>
      binds_of_setEntry (s := { s with target := s.target.afterIssue c }) hy hx rfl (.inr rfl)
  | @answerFree x e st d _ _ =>
    refine hs.of_fewer (fun i => ?_) fun y i g hy => (binds_of_entry (entry_answer s e st d y) i g).mp (binds_of_freeEntry hy)
    rw [port_of_ports (freeEntry_onlyClaims _ x).ports, port_of_ports (answer_ports s e st d)]
  | @answerDetach x e st c hx _ =>
    refine hs.of_fewer (fun i => ?_) fun y i g hy => (binds_of_entry (entry_answer s e st [] y) i g).mp
      (binds_of_setEntry hy ((entry_answer s e st [] x).trans hx) rfl (.inl rfl))
    rw [port_of_ports (detachEntry_onlyClaims _ x e c).ports, port_of_ports (answer_ports s e st [])]
  | @free x _ _ _ =>
    refine hs.of_fewer (fun i => ?_) fun y i g => binds_of_freeEntry
    rw [port_of_ports (freeEntry_onlyClaims s x).ports]
  | detach hx _ _ => exact hs.of_fewer (fun i => List.Sublist.refl _) fun y i g hy => binds_of_setEntry hy hx rfl (.inl rfl)
  | clear _ ht _ hp _ =>
    refine hs.of_fewer (fun i => ?_) fun x i g ⟨e, he, _⟩ => ?_
    · rw [hp]; exact List.nil_sublist _
    · simp [ht] at he

/-- Settles O56: every move keeps the tags apart with the tracker's laws, so every step does. -/
theorem tagsStayDistinct : Obligations.TagsStayDistinct := by
  intro s t hlaws htags hstep
  have hkept := (step_moves hstep).keeps (P := fun u => u.TrackerLaws ∧ u.TagsApart)
    (fun _ _ hm hu => ⟨hm.trackerLaws hu.1, hm.tagsApart hu.1 hu.2⟩) ⟨hlaws, (tagsDistinct_iff s).mp htags⟩
  exact (tagsDistinct_iff t).mpr hkept.2

end Sys2Proof.Machine
end

section
/-!
What every event keeps of the credit law of the initiator links (R38, R45, R137) and of the laws of the target port (R40, R99, R114, R116):
the vocabulary, and what head checks, notices and claims keep.
-/

namespace Sys2Proof.Machine

/-! ### One port's credits -/

/-- The credit law of one port. -/
def Port.Lawful (p : Port) : Prop :=
  (p.state = .active ∨ p.state = .draining → p.granted + p.queue.length = 8) ∧
  (p.state = .disabled ∨ p.state = .fenced → p.granted = 0) ∧ (p.state ≠ .active → p.queue = [])

theorem creditLaw_iff (s : State) : s.CreditLaw ↔ ∀ i, (s.port i).Lawful := Iff.rfl

/-- Requests leave the queue of a port, and each returns its credit (R46). -/
def Port.Balanced (p q : Port) : Prop :=
  q.state = p.state ∧ q.queue <:+ p.queue ∧ q.granted + q.queue.length = p.granted + p.queue.length

theorem Port.Balanced.refl (p : Port) : p.Balanced p := ⟨rfl, List.suffix_rfl, rfl⟩

theorem Port.Balanced.trans {p q r : Port} (h : p.Balanced q) (k : q.Balanced r) : p.Balanced r :=
  ⟨k.1.trans h.1, k.2.1.trans h.2.1, k.2.2.trans h.2.2⟩

theorem Port.Balanced.lawful {p q : Port} (h : p.Balanced q) (hp : p.Lawful) : q.Lawful := by
  obtain ⟨hstate, hqueue, hsum⟩ := h
  obtain ⟨hopen, hshut, hempty⟩ := hp
  have hnone : q.state ≠ .active → q.queue = [] ∧ p.queue = [] := fun hq => by
    have he := hempty (hstate ▸ hq)
    exact ⟨List.suffix_nil.mp (he ▸ hqueue), he⟩
  refine ⟨fun hq => hsum.trans (hopen (hstate ▸ hq)), fun hq => ?_, fun hq => (hnone hq).1⟩
  obtain ⟨hqe, hpe⟩ := hnone (by rcases hq with hq | hq <;> simp [hq])
  rw [hqe, hpe] at hsum
  exact hsum.trans (hshut (hstate ▸ hq))

/-- Every port is balanced from `s` to `t`. -/
def Balanced (s t : State) : Prop := ∀ i, (s.port i).Balanced (t.port i)

theorem Balanced.of_ports {s t : State} (h : t.ports = s.ports) : Balanced s t := fun i => by
  rw [port_of_ports h]
  exact Port.Balanced.refl _

theorem Balanced.trans {s t u : State} (h : Balanced s t) (k : Balanced t u) : Balanced s u := fun i => (h i).trans (k i)

theorem Balanced.creditLaw {s t : State} (h : Balanced s t) (hs : s.CreditLaw) : t.CreditLaw :=
  (creditLaw_iff t).mpr fun i => (h i).lawful ((creditLaw_iff s).mp hs i)

theorem refusedFront_length_le (s : State) (i : Initiator) (q : List Request) : (s.refusedFront i q).length ≤ q.length := by
  induction q with
  | nil => exact Nat.le_refl 0
  | cons r q ih =>
    unfold State.refusedFront
    split
    · exact Nat.succ_le_succ ih
    · exact Nat.zero_le _
    · exact Nat.zero_le _

/-- The check of a port's head leaves it balanced (R46, R61). -/
theorem balanced_of_afterCheck {s t : State} {i : Initiator} (hstate : (t.port i).state = (s.port i).state)
    (hview : t.view i = s.afterCheck i (s.view i)) : (s.port i).Balanced (t.port i) := by
  have hqueue : (t.port i).queue = _ := congrArg PortView.queue hview
  have hgranted : (t.port i).granted = _ := congrArg PortView.granted hview
  have hle := refusedFront_length_le s i (s.port i).queue
  refine ⟨hstate, ?_, ?_⟩
  · rw [hqueue]
    exact List.drop_suffix _ _
  · rw [hqueue, hgranted]
    simp only [State.afterCheck, view_queue, List.length_drop]
    simp only [State.view]
    omega

theorem balanced_of_view {s t : State} {i : Initiator} (hstate : (t.port i).state = (s.port i).state) (hview : t.view i = s.view i) :
    (s.port i).Balanced (t.port i) := by
  have hqueue : (t.port i).queue = _ := congrArg PortView.queue hview
  have hgranted : (t.port i).granted = _ := congrArg PortView.granted hview
  refine ⟨hstate, ?_, ?_⟩
  · rw [hqueue]
    exact List.suffix_rfl
  · rw [hqueue, hgranted]
    rfl

theorem recheck_balanced (s : State) : Balanced s s.recheck := fun i => by
  have hstate := (recheck_onlyHeads s).portState i
  have hview := (recheck_checksPorts s).view i
  split at hview
  · exact balanced_of_afterCheck hstate hview
  · exact balanced_of_view hstate hview

theorem headArrives_balanced (s : State) (i : Initiator) : Balanced s (s.headArrives i) := fun j => by
  have hstate := (headArrives_onlyHeads s i).portState j
  obtain ⟨hself, hother, -, -⟩ := checkQueue_checksPort i _ .noHead s rfl
  by_cases hij : i = j
  · subst hij
    exact balanced_of_afterCheck hstate hself
  · exact balanced_of_view hstate (hother j hij)

theorem suspectIfReached_ports (s : State) : s.suspectIfReached.ports = s.ports := by
  rcases suspectIfReached_cases s with ⟨-, -, e⟩ | ⟨-, e⟩ <;> rw [e]
  rfl

theorem notices_balanced (before s : State) : Balanced s (State.notices before s) := by
  obtain ⟨t, ht, hn⟩ := notices_cases before s
  have hst : Balanced s t := by
    rcases ht with rfl | rfl
    · exact .of_ports rfl
    · exact .of_ports (suspectIfReached_ports s)
  rcases hn with hn | hn <;> rw [hn]
  · exact hst.trans (recheck_balanced t)
  · exact hst

/-! ### The target port's laws -/

/-- The laws of the target port together. -/
structure State.TargetLaws (s : State) : Prop where
  credits : s.TargetCreditLaw
  issued : s.NoneIssuedWhileAway
  quarantine : s.QuarantineLaw

/-- No entry of `t` is newly one that `p` picks. -/
def NoneNew (p : Entry → Bool) (s t : State) : Prop :=
  ∀ x e, t.entry x = some e → p e = true → ∃ f, s.entry x = some f ∧ p f = true

theorem NoneNew.of_tracker {s t : State} (h : t.tracker = s.tracker) (p : Entry → Bool) : NoneNew p s t := fun x e he hp =>
  ⟨e, (entry_of_tracker h x).symm.trans he, hp⟩

theorem NoneNew.trans {p : Entry → Bool} {s t u : State} (h : NoneNew p s t) (k : NoneNew p t u) : NoneNew p s u := fun x e he hp => by
  obtain ⟨f, hf, hpf⟩ := k x e he hp
  exact h x f hf hpf

theorem NoneNew.countEntries_le {p : Entry → Bool} {s t : State} (h : NoneNew p s t) : t.countEntries p ≤ s.countEntries p := by
  refine List.countP_mono_left fun x _ hx => ?_
  obtain ⟨e, he, hp⟩ := (Option.any_eq_true _ _).mp hx
  obtain ⟨f, hf, hpf⟩ := h x e he hp
  rw [hf]
  exact hpf

/-- Is the entry ISSUED? -/
def Entry.issued (e : Entry) : Bool := e.phase = .issued

/-- Is the entry DETACHED? -/
def Entry.detached (e : Entry) : Bool := e.phase.isDetached

theorem noneIssuedWhileAway_iff (s : State) : s.NoneIssuedWhileAway ↔
    (s.target.state = .offline ∨ s.target.state = .resyncing → ∀ x e, s.entry x = some e → e.issued = false) := by
  simp only [State.NoneIssuedWhileAway, Entry.issued, decide_eq_false_iff_not]
  rfl

theorem NoneNew.noneIssuedWhileAway {s t : State} (h : NoneNew Entry.issued s t) (hstate : t.target.state = s.target.state)
    (hs : s.NoneIssuedWhileAway) : t.NoneIssuedWhileAway := by
  rw [noneIssuedWhileAway_iff, hstate] at *
  intro ha x e he
  rw [Bool.eq_false_iff]
  intro hi
  obtain ⟨f, hf, hif⟩ := h x e he hi
  simp [hs ha x f hf] at hif

/-- An event that leaves the target's state, credits and limit, and newly issues and detaches nothing, keeps its laws. -/
theorem State.TargetLaws.of_noneNew {s t : State} (hs : s.TargetLaws) (hstate : t.target.state = s.target.state)
    (hcredits : t.target.credits = s.target.credits) (hlimit : t.target.detachLimit = s.target.detachLimit)
    (hissued : NoneNew Entry.issued s t) (hdetached : NoneNew Entry.detached s t) : t.TargetLaws := by
  refine ⟨?_, hissued.noneIssuedWhileAway hstate hs.issued, ?_⟩
  · rw [State.TargetCreditLaw, hstate, hcredits]
    exact hs.credits
  · obtain ⟨hlo, hhi, hbelow⟩ := hs.quarantine
    rw [State.QuarantineLaw, hstate, hlimit]
    exact ⟨hlo, hhi, fun ho => (hdetached.countEntries_le).trans_lt (hbelow ho)⟩

theorem State.TargetLaws.congr {s t : State} (hs : s.TargetLaws) (htr : t.tracker = s.tracker) (hstate : t.target.state = s.target.state)
    (hcredits : t.target.credits = s.target.credits) (hlimit : t.target.detachLimit = s.target.detachLimit) : t.TargetLaws :=
  hs.of_noneNew hstate hcredits hlimit (.of_tracker htr _) (.of_tracker htr _)

/-! ### Keeping both -/

/-- The event keeps the credit law and the laws of the target port. -/
structure Upholds (s t : State) : Prop where
  credit : s.CreditLaw → t.CreditLaw
  target : s.TargetLaws → t.TargetLaws

namespace Upholds

theorem refl (s : State) : Upholds s s := ⟨id, id⟩

theorem trans {s t u : State} (h : Upholds s t) (k : Upholds t u) : Upholds s u := ⟨k.credit ∘ h.credit, k.target ∘ h.target⟩

theorem foldl {α : Type} (f : State → α → State) (hf : ∀ s a, Upholds s (f s a)) (l : List α) (s : State) : Upholds s (l.foldl f s) := by
  induction l generalizing s with
  | nil => exact refl s
  | cons a l ih => exact (hf s a).trans (ih _)

/-- An event that leaves the ports, the tracker, and of the target port its state, credits and limit. -/
theorem of_same {s t : State} (hp : t.ports = s.ports) (htr : t.tracker = s.tracker) (hstate : t.target.state = s.target.state)
    (hcredits : t.target.credits = s.target.credits) (hlimit : t.target.detachLimit = s.target.detachLimit) : Upholds s t where
  credit := (Balanced.of_ports hp).creditLaw
  target h := h.congr htr hstate hcredits hlimit

theorem of_balanced {s t : State} (hb : Balanced s t) (htr : t.tracker = s.tracker) (ht : t.target = s.target) : Upholds s t where
  credit := hb.creditLaw
  target h := h.congr htr (by rw [ht]) (by rw [ht]) (by rw [ht])

theorem ite {p : Prop} [Decidable p] {s a b : State} (ha : Upholds s a) (hb : Upholds s b) : Upholds s (if p then a else b) := by
  split
  · exact ha
  · exact hb

end Upholds

theorem upholds_of_onlyMonitor {s t : State} (h : OnlyMonitor s t) : Upholds s t :=
  .of_same h.ports h.tracker (by rw [h.target]) (by rw [h.target]) (by rw [h.target])

theorem report_upholds (s : State) (rs : List Report) (l : Option (Initiator × Tick)) : Upholds s (s.report rs l) :=
  upholds_of_onlyMonitor (report_onlyMonitor s rs l)

theorem logFault_upholds (s : State) (r : FaultReport) : Upholds s (s.logFault r) :=
  .of_same (logFault_ports s r) (logFault_tracker s r) (by rw [logFault_target]) (by rw [logFault_target]) (by rw [logFault_target])

theorem complete_upholds (s : State) (code : Word) (st : CommandStatus) : Upholds s (s.complete code st) := by
  obtain ⟨f, h⟩ := complete_only s code st
  rw [h]
  exact .of_same rfl rfl rfl rfl rfl

theorem recheck_upholds (s : State) : Upholds s s.recheck :=
  .of_balanced (recheck_balanced s) (recheck_onlyHeads s).tracker (recheck_onlyHeads s).target

theorem headArrives_upholds (s : State) (i : Initiator) : Upholds s (s.headArrives i) :=
  .of_balanced (headArrives_balanced s i) (headArrives_onlyHeads s i).tracker (headArrives_onlyHeads s i).target

/-! ### Claims and their notices (R17, R116) -/

/-- What a claim leaves besides the entries, so far as the two laws read it; entries may be newly detached. -/
structure Claims (s u : State) : Prop where
  state : u.target.state = s.target.state
  credits : u.target.credits = s.target.credits
  limit : u.target.detachLimit = s.target.detachLimit
  issued : NoneNew Entry.issued s u

theorem Claims.of_onlyClaims {s u : State} (h : OnlyClaims s u) (hi : NoneNew Entry.issued s u) : Claims s u :=
  ⟨h.targetState, h.credits, h.detachLimit, hi⟩

/-- An event that leaves the tracker and the target port, after a claim. -/
theorem Claims.congr {s u v : State} (h : Claims s u) (htr : v.tracker = u.tracker) (ht : v.target = u.target) : Claims s v :=
  ⟨by rw [ht, h.state], by rw [ht, h.credits], by rw [ht, h.limit], h.issued.trans (.of_tracker htr _)⟩

/-- The detached-count rule leaves the quarantine law (R114, R116): an ONLINE target at its limit is SUSPECT. -/
theorem targetLaws_suspectIfReached {u : State} (hc : u.TargetCreditLaw) (hi : u.NoneIssuedWhileAway) (hlo : 1 ≤ u.target.detachLimit)
    (hhi : u.target.detachLimit ≤ 64) : u.suspectIfReached.TargetLaws := by
  rcases suspectIfReached_cases u with ⟨-, -, h⟩ | ⟨hn, h⟩ <;> rw [h]
  · exact ⟨⟨hc.1, by simp⟩, by simp [State.NoneIssuedWhileAway], hlo, hhi, by simp⟩
  · exact ⟨hc, hi, hlo, hhi, fun ho => Nat.lt_of_not_le fun hl => hn ⟨ho, hl⟩⟩

/-- After a claim its notices restore the target port's laws: the claim's detachments reach the port (R116). -/
theorem targetLaws_notices {s u : State} (h : Claims s u) (hs : s.TargetLaws) : (State.notices s u).TargetLaws := by
  have hcredits : u.TargetCreditLaw := by
    rw [State.TargetCreditLaw, h.state, h.credits]
    exact hs.credits
  have hissued := h.issued.noneIssuedWhileAway h.state hs.issued
  obtain ⟨hlo, hhi, hbelow⟩ := hs.quarantine
  have hcount : (if u.detachedCount ≠ s.detachedCount then u.suspectIfReached else u).TargetLaws := by
    split
    · exact targetLaws_suspectIfReached hcredits hissued (h.limit.symm ▸ hlo) (h.limit.symm ▸ hhi)
    · rename_i hsame
      refine ⟨hcredits, hissued, ?_⟩
      rw [State.QuarantineLaw, h.limit, h.state, not_not.mp hsame]
      exact ⟨hlo, hhi, hbelow⟩
  unfold State.notices
  simp only
  generalize (if u.detachedCount ≠ s.detachedCount then u.suspectIfReached else u) = w at hcount ⊢
  split
  · exact (recheck_upholds w).target hcount
  · exact hcount

theorem notices_upholds {s u : State} (h : OnlyClaims s u) (hi : NoneNew Entry.issued s u) : Upholds s (State.notices s u) where
  credit hs := (notices_balanced s u).creditLaw ((Balanced.of_ports h.ports).creditLaw hs)
  target := targetLaws_notices (.of_onlyClaims h hi)

/-- Freeing leaves every other entry's phase, but for WAITING to READY (R9). -/
theorem noneNew_freeEntry {p : Entry → Bool} (hp : ∀ e f : Entry, e.KeptAs f → p f = true → p e = true) (s : State) (x : EntryIdx) :
    NoneNew p s (s.freeEntry x) := fun _ e he hpe => by
  obtain ⟨f, hf, hk⟩ := freeEntry_some he
  exact ⟨f, hf, hp f e hk hpe⟩

theorem issued_of_keptAs {e f : Entry} (h : e.KeptAs f) (hf : f.issued = true) : e.issued = true := by
  simpa [Entry.issued, h.issued] using hf

theorem detached_of_keptAs {e f : Entry} (h : e.KeptAs f) (hf : f.detached = true) : e.detached = true := h.isDetached.symm.trans hf

/-- Of an entry that is ISSUED after a claim: it was so before, and the claim did not select it (R17). -/
theorem issued_of_settledBy {s t : State} {sel : Entry → Bool} {c : DetachCause} {x : EntryIdx} {g : Entry}
    (h : s.settledBy t sel c x = true) (hg : t.entry x = some g) (hi : g.issued = true) :
    ∃ e, s.entry x = some e ∧ e.issued = true ∧ sel e = false := by
  have hphase : g.phase = .issued := of_decide_eq_true hi
  obtain ⟨e, he, -, hd⟩ := not_live_of_settledBy h hg
  have hsel : sel e = false := by
    rw [Bool.eq_false_iff]
    intro hsel
    simpa [hphase, Phase.isDetached] using hd hsel
  have hkept : s.entryKept t x = true := by
    rw [State.settledBy, he] at h
    simpa [hsel] using h
  rw [entryKept_iff, he, hg, Option.rel_some_some] at hkept
  exact ⟨e, he, issued_of_keptAs hkept hi, hsel⟩

theorem noneNew_claim {sel : Entry → Bool} (hsel : SteadySelection sel) (a : Option Status) (c : DetachCause) (s : State) :
    NoneNew Entry.issued s (s.claim (fun _ e => sel e) a c).1 := fun x _ hg hi => by
  obtain ⟨e, he, hie, -⟩ := issued_of_settledBy (claim_settledBy hsel a c s x) hg hi
  exact ⟨e, he, hie⟩

theorem steady_initiator (i : Initiator) : SteadySelection fun e => e.initiator == i := fun e f h => by
  simp only [(carriedBy_iff.mp h.1).1]

end Sys2Proof.Machine
end

section
/-!
Every operation of the target port and the tracker, of the initiator ports and of the timers keeps the credit law and the target port's laws.
-/

namespace Sys2Proof.Machine

/-! ### The target port (chapter 6) -/

theorem completion_upholds (s : State) (r : Response) (e : Entry) : Upholds s (s.completion r e) := by
  have hclaim : OnlyClaims s ((s.answer e (responseAnswer r e) (responseData r e)).freeEntry r.tag) :=
    (answer_onlyClaims ..).trans (freeEntry_onlyClaims ..)
  have hissued : NoneNew Entry.issued s ((s.answer e (responseAnswer r e) (responseData r e)).freeEntry r.tag) :=
    (NoneNew.of_tracker (answer_tracker ..) _).trans (noneNew_freeEntry (fun _ _ => issued_of_keptAs) _ _)
  have hreport := (notices_upholds hclaim hissued).trans (report_upholds _
    [{ event := .completed, initiator := e.initiator, qualifier := completedQualifier (responseAnswer r e) }]
    (some (e.initiator, s.timebase.count - e.admissionTick)))
  unfold State.completion
  simp only
  split
  · exact hreport
  · exact hreport.trans (logFault_upholds _ _)

theorem lateResponse_upholds (s : State) (x : EntryIdx) (e : Entry) (c : DetachCause) : Upholds s (s.lateResponse x e c) :=
  ((notices_upholds (freeEntry_onlyClaims s x) (noneNew_freeEntry (fun _ _ => issued_of_keptAs) s x)).trans (logFault_upholds _ _)).trans
    (report_upholds _ _ none)

theorem takeResponse_upholds (s : State) (r : Response) : Upholds s (s.takeResponse r) := by
  unfold State.takeResponse
  split
  · exact .refl s
  · split
    · exact logFault_upholds s _
    · split
      · exact completion_upholds s r _
      · exact lateResponse_upholds s r.tag _ _
      · exact logFault_upholds s _
      · exact logFault_upholds s _

/-- A credit count is set within its bound, in the target port alone (R37, R40). -/
theorem setCredits_sets (s : State) (n : Nat) : (s.setCredits n).ports = s.ports ∧ (s.setCredits n).tracker = s.tracker ∧
    (s.setCredits n).target = { s.target with credits := min 64 n } := by
  unfold State.setCredits
  simp only
  split
  · exact ⟨logFault_ports .., logFault_tracker .., logFault_target ..⟩
  · exact ⟨rfl, rfl, rfl⟩

theorem setCredits_upholds (s : State) (n : Nat) (h : s.target.state = .online ∨ s.target.state = .suspect) :
    Upholds s (s.setCredits n) := by
  obtain ⟨hports, htracker, htarget⟩ := setCredits_sets s n
  refine ⟨(Balanced.of_ports hports).creditLaw, fun hs => ⟨⟨?_, fun ha => ?_⟩, ?_, ?_⟩⟩
  · rw [htarget]
    exact Nat.min_le_left _ _
  · rw [htarget] at ha
    rcases h with h | h <;> simp [h] at ha
  · exact (NoneNew.of_tracker htracker _).noneIssuedWhileAway (by rw [htarget]) hs.issued
  · rw [State.QuarantineLaw, htarget, detachedCount_of_tracker htracker]
    exact hs.quarantine

theorem takeCredit_upholds (s : State) (n : Nat) : Upholds s (s.takeCredit n) := by
  unfold State.takeCredit
  split
  · exact setCredits_upholds s _ (.inl (by assumption))
  · exact setCredits_upholds s _ (.inr (by assumption))
  · exact .refl s
  · exact .refl s

/-- A target brought ONLINE with nothing DETACHED keeps its laws (R111, R115). -/
theorem bringOnline_keeps {s u : State} (h : OnlyClaims s u) (hd : ∀ x e, u.entry x = some e → e.detached = false) (n : Nat) :
    Upholds s (u.bringOnline n) := by
  obtain ⟨hports, htracker, htarget⟩ := setCredits_sets u n
  have hnone : (u.setCredits n).detachedCount = 0 := by
    rw [detachedCount_of_tracker htracker, State.detachedCount, State.countEntries, List.countP_eq_zero]
    intro x _ hx
    obtain ⟨e, he, hp⟩ := (Option.any_eq_true _ _).mp hx
    exact Bool.false_ne_true ((hd x e he).symm.trans hp)
  unfold State.bringOnline
  generalize u.setCredits n = v at hports htracker htarget hnone
  refine Upholds.trans ⟨?_, fun hs => ?_⟩ (recheck_upholds _)
  · exact (Balanced.of_ports (hports.trans h.ports)).creditLaw
  · obtain ⟨hlo, hhi, -⟩ := hs.quarantine
    have hlimit : v.target.detachLimit = s.target.detachLimit := by rw [htarget]; exact h.detachLimit
    refine ⟨⟨?_, by simp [State.changeTarget]⟩, by simp [State.NoneIssuedWhileAway, State.changeTarget], hlimit ▸ hlo, hlimit ▸ hhi, fun _ => ?_⟩
    · simp only [State.changeTarget, State.raise_target, htarget]
      exact Nat.min_le_left _ _
    · exact lt_of_eq_of_lt hnone (hlimit ▸ hlo)

/-- A claim that leaves, of each entry it takes, nothing DETACHED, leaves nothing DETACHED (R23, R24). -/
theorem none_detached_of_foldl {f : State → EntryIdx → State}
    (hf : ∀ t x y g, (f t x).entry y = some g → g.detached = true → y ≠ x ∧ ∃ e, t.entry y = some e ∧ e.detached = true) (s : State) :
    ∀ x e, (entryIndices.foldl f s).entry x = some e → e.detached = false := by
  have fold : ∀ (l : List EntryIdx) (t : State) (y : EntryIdx) (g : Entry), (l.foldl f t).entry y = some g → g.detached = true →
      y ∉ l ∧ ∃ e, t.entry y = some e ∧ e.detached = true := by
    intro l
    induction l with
    | nil => exact fun t y g hg hd => ⟨List.not_mem_nil, g, hg, hd⟩
    | cons x l ih =>
      intro t y g hg hd
      obtain ⟨hl, e, he, hed⟩ := ih (f t x) y g hg hd
      obtain ⟨hyx, hb⟩ := hf t x y e he hed
      exact ⟨fun hm => (List.mem_cons.mp hm).elim hyx hl, hb⟩
  intro x e he
  rw [Bool.eq_false_iff]
  exact fun hd => (fold _ s x e he hd).1 (mem_entryIndices x)

/-- An entry left DETACHED by a freeing is another, and was so before. -/
theorem detached_of_freeEntry {s : State} {x y : EntryIdx} {g : Entry} (hg : (s.freeEntry x).entry y = some g) (hd : g.detached = true) :
    y ≠ x ∧ ∃ e, s.entry y = some e ∧ e.detached = true := by
  refine ⟨fun hyx => ?_, noneNew_freeEntry (fun _ _ => detached_of_keptAs) s x y g hg hd⟩
  rw [hyx, entry_freeEntry_self] at hg
  cases hg

/-- An entry left DETACHED where the entry `x` that was looked at is not DETACHED is another. -/
theorem ne_of_not_detached {s : State} {x y : EntryIdx} {g : Entry} (hx : ∀ e, s.entry x = some e → e.detached = false)
    (hg : s.entry y = some g) (hd : g.detached = true) : y ≠ x ∧ ∃ e, s.entry y = some e ∧ e.detached = true :=
  ⟨fun hyx => Bool.false_ne_true ((hx g (hyx ▸ hg)).symm.trans hd), g, hg, hd⟩

theorem none_detached_acknowledgeClaim (s : State) : ∀ x e, s.acknowledgeClaim.entry x = some e → e.detached = false :=
  none_detached_of_foldl (fun t x y g hg hd => by
    unfold State.acknowledgeEntry at hg
    split at hg
    · rename_i e he
      split at hg
      · exact detached_of_freeEntry hg hd
      · rename_i hn
        exact ne_of_not_detached (fun f hf => by cases he.symm.trans hf; exact Bool.eq_false_iff.mpr hn) hg hd
    · rename_i hnone
      exact ne_of_not_detached (fun f hf => by cases hnone.symm.trans hf) hg hd) s

theorem none_detached_noticeClaim (s : State) : ∀ x e, s.noticeClaim.entry x = some e → e.detached = false :=
  none_detached_of_foldl (fun t x y g hg hd => by
    unfold State.noticeEntry at hg
    split at hg
    · rename_i e he
      have kept : e.phase.isDetached = false → t.entry y = some g → y ≠ x ∧ ∃ e, t.entry y = some e ∧ e.detached = true :=
        fun hp hg => ne_of_not_detached (fun f hf => by cases he.symm.trans hf; exact hp) hg hd
      split at hg
      · obtain ⟨hyx, f, hf, hfd⟩ := detached_of_freeEntry hg hd
        exact ⟨hyx, f, by rwa [entry_answer] at hf, hfd⟩
      · exact detached_of_freeEntry hg hd
      · rename_i hp
        exact kept (by rw [hp]; rfl) hg
      · rename_i hp
        exact kept (by rw [hp]; rfl) hg
    · rename_i hnone
      exact ne_of_not_detached (fun f hf => by cases hnone.symm.trans hf) hg hd) s

theorem acknowledge_upholds (s : State) (n : Nat) : Upholds s (s.acknowledge n) :=
  bringOnline_keeps (acknowledgeClaim_onlyClaims s) (none_detached_acknowledgeClaim s) n

theorem restarted_upholds (s : State) (n : Nat) : Upholds s (s.restarted n) :=
  bringOnline_keeps (noticeClaim_onlyClaims s) (none_detached_noticeClaim s) n

theorem takeAck_upholds (s : State) (n : Nat) : Upholds s (s.takeAck n) := by
  unfold State.takeAck
  split
  · exact acknowledge_upholds s n
  all_goals exact logFault_upholds s _

theorem takeResetNotice_upholds (s : State) (n : Nat) : Upholds s (s.takeResetNotice n) := by
  unfold State.takeResetNotice
  split
  · exact acknowledge_upholds s n
  · exact logFault_upholds s _
  · exact restarted_upholds s n
  · exact restarted_upholds s n

/-- A target that goes away with no credits, once no entry is ISSUED, keeps its laws (R108, R110). -/
theorem goneAway_upholds {s u v : State} (h : OnlyClaims s u) (hi : ∀ x e, u.entry x = some e → e.issued = false)
    {st : TargetState} {rt : Option RunningTimer} (hst : st ≠ .online) (hp : v.ports = u.ports) (htr : v.tracker = u.tracker)
    (ht : v.target = (u.retarget st 0 rt).target) : Upholds s v where
  credit := (Balanced.of_ports (hp.trans h.ports)).creditLaw
  target hs := by
    obtain ⟨hlo, hhi, -⟩ := hs.quarantine
    have hlimit : v.target.detachLimit = s.target.detachLimit := by rw [ht]; exact h.detachLimit
    have hcredits : v.target.credits = 0 := by rw [ht]; rfl
    have hstate : v.target.state = st := by rw [ht]; rfl
    refine ⟨⟨by omega, fun _ => hcredits⟩, ?_, hlimit ▸ hlo, hlimit ▸ hhi, fun ho => absurd (hstate.symm.trans ho) hst⟩
    rw [noneIssuedWhileAway_iff]
    exact fun _ x e he => hi x e ((entry_of_tracker htr x).symm.trans he)

theorem offlineClaim_onlyClaims (s : State) : OnlyClaims s s.offlineClaim := by unfold State.offlineClaim; exact claim_onlyClaims ..

theorem enterOffline_upholds (s : State) : Upholds s s.enterOffline := by
  have hnone : ∀ x e, s.offlineClaim.entry x = some e → e.issued = false := fun x e he => by
    have hd := isDetached_of_offlineClaim s x e he
    rw [Entry.issued, decide_eq_false_iff_not]
    intro hp
    simp [hp, Phase.isDetached] at hd
  have hclaim := offlineClaim_onlyClaims s
  rw [enterOffline_eq]
  generalize s.offlineClaim = u at hclaim hnone ⊢
  refine Upholds.trans ?_ (recheck_upholds _)
  exact goneAway_upholds hclaim hnone (st := .offline) (rt := none) (by simp) rfl rfl rfl

/-- The resync claim leaves no ISSUED entry (R22). -/
theorem none_issued_resyncClaim (s : State) : ∀ x e, s.resyncClaim.entry x = some e → e.issued = false := fun x e he => by
  have hsel : SteadySelection fun e => e.phase == .issued := fun e f h => by
    rw [Bool.eq_iff_iff, beq_iff_eq, beq_iff_eq]
    exact h.issued
  rw [Bool.eq_false_iff]
  intro hi
  obtain ⟨f, -, hf, hnot⟩ := issued_of_settledBy (claim_settledBy hsel (some .errTarget) .resync s x) he hi
  simp only [Entry.issued, decide_eq_true_eq] at hf
  simp [hf] at hnot

theorem startResync_upholds (s : State) : Upholds s s.startResync := by
  have hclaim := resyncClaim_onlyClaims s
  have hnone := none_issued_resyncClaim s
  rw [startResync_eq]
  generalize s.resyncClaim = u at hclaim hnone ⊢
  refine Upholds.trans ?_ (recheck_upholds _)
  exact goneAway_upholds hclaim hnone (st := .resyncing) (rt := some { ticks := s.target.resyncWait }) (by simp) rfl rfl rfl

theorem resyncWaitExpiry_upholds (s : State) : Upholds s s.resyncWaitExpiry := by
  unfold State.resyncWaitExpiry
  exact .ite ((logFault_upholds s _).trans (enterOffline_upholds _)) (.refl s)

theorem writeDetachLimit_upholds (s : State) (v : Word) : Upholds s (s.writeDetachLimit v) := by
  have hlimit : ∀ n, 1 ≤ n → n ≤ 64 → Upholds s (State.suspectIfReached { s with target := { s.target with detachLimit := n } }) := by
    refine fun n hlo hhi => ⟨fun hs => ?_, fun hs => targetLaws_suspectIfReached hs.credits hs.issued hlo hhi⟩
    refine (Balanced.of_ports ?_).creditLaw hs
    exact suspectIfReached_ports _
  have hbounded := hlimit (max 1 (min 64 v.toNat)) (Nat.le_max_left _ _) (max_le (by omega) (Nat.min_le_left _ _))
  unfold State.writeDetachLimit
  exact .ite (hbounded.trans (recheck_upholds _)) hbounded

theorem commandResync_upholds (s : State) : Upholds s s.commandResync := by
  unfold State.commandResync
  exact .ite (complete_upholds ..) ((startResync_upholds s).trans (complete_upholds ..))

theorem commandOffline_upholds (s : State) : Upholds s s.commandOffline := by
  unfold State.commandOffline
  exact .ite (complete_upholds ..) ((enterOffline_upholds s).trans (complete_upholds ..))

/-! ### Admission and issue (R62 to R64, R99) -/

theorem noneNew_allocate {p : Entry → Bool} (hnew : ∀ s i r w l, p (newEntry s i r w l) = false)
    (hold : ∀ e x, p (e.addSuccessor x) = p e) (s : State) (x : EntryIdx) (i : Initiator) (r : Request) (w : WindowIdx) :
    NoneNew p s (s.allocate x i r w) := fun y e he hp => by
  rw [entry_allocate] at he
  split at he
  · cases he
    simp [hnew] at hp
  · split at he
    · obtain ⟨f, hf, rfl⟩ := Option.map_eq_some_iff.mp he
      exact ⟨f, hf, (hold f x).symm.trans hp⟩
    · exact ⟨e, he, hp⟩

/-- A new entry is WAITING or READY (R8). -/
theorem newEntry_phase (s : State) (i : Initiator) (r : Request) (w : WindowIdx) (l : List EntryIdx) :
    (newEntry s i r w l).issued = false ∧ (newEntry s i r w l).detached = false := by
  by_cases hl : l = [] <;> simp [newEntry, Entry.issued, Entry.detached, Phase.isDetached, hl]

theorem allocate_upholds (s : State) (x : EntryIdx) (i : Initiator) (r : Request) (w : WindowIdx) : Upholds s (s.allocate x i r w) where
  credit := (Balanced.of_ports (allocate_onlyClaims s x i r w).ports).creditLaw
  target hs := by
    have h := allocate_onlyClaims s x i r w
    exact hs.of_noneNew h.targetState h.credits h.detachLimit
      (noneNew_allocate (fun s i r w l => (newEntry_phase s i r w l).1) (fun _ _ => rfl) s x i r w)
      (noneNew_allocate (fun s i r w l => (newEntry_phase s i r w l).2) (fun _ _ => rfl) s x i r w)

/-- A head that leaves its queue returns its credit (R46). -/
theorem removeHead_balanced {s : State} {i : Initiator} {r : Request} {rest : List Request} (hq : (s.port i).queue = r :: rest) :
    Balanced s ((s.modPort i fun p => { p with queue := rest }).returnCredit i) := fun j => by
  rw [port_returnCredit, port_modPort]
  by_cases hij : i = j
  · subst hij
    refine ⟨by simp, by simp [hq], ?_⟩
    simp only [if_true, hq, List.length_cons]
    omega
  · simp only [if_neg hij]
    exact Port.Balanced.refl _

theorem removeHead_upholds {s : State} {i : Initiator} {r : Request} {rest : List Request} (hq : (s.port i).queue = r :: rest) :
    Upholds s ((s.modPort i fun p => { p with queue := rest }).returnCredit i) := .of_balanced (removeHead_balanced hq) rfl rfl

theorem charge_upholds (s : State) (i : Initiator) (n : Nat) : Upholds s (s.charge i n) := by
  unfold State.charge
  exact .ite (.of_same rfl rfl rfl rfl rfl) (.refl s)

theorem movePointer_upholds (s : State) (i : Initiator) : Upholds s (s.movePointer i) := by
  unfold State.movePointer
  split
  · exact .of_same rfl rfl rfl rfl rfl
  · exact .of_same rfl rfl rfl rfl rfl

theorem admitHead_upholds (s : State) (i : Initiator) (r : Request) (rest : List Request) (w : WindowIdx) (x : EntryIdx)
    (hq : (s.port i).queue = r :: rest) : Upholds s (s.admitHead i r rest w x) := by
  have hentry := ((movePointer_upholds s i).trans (charge_upholds _ i r.beats)).trans (allocate_upholds _ x i r w)
  have hports : (((s.movePointer i).charge i r.beats).allocate x i r w).ports = s.ports := by
    rw [(allocate_onlyClaims ..).ports, charge_ports, movePointer_ports]
  unfold State.admitHead
  simp only
  refine (hentry.trans (removeHead_upholds (r := r) ?_)).trans (report_upholds _ _ none)
  rw [port_of_ports hports, hq]

theorem grant_upholds (s : State) : Upholds s s.grant := by
  unfold State.grant
  split
  · exact .refl s
  · rename_i i _
    split
    · exact .refl s
    · rename_i r rest hq
      split
      · exact ((admitHead_upholds s i r rest _ _ hq).trans (headArrives_upholds _ i)).trans (recheck_upholds _)
      · exact .refl s

/-- An issue is made only while the target is not away (R99), spends a credit, and detaches nothing. -/
theorem issueEntry_upholds {s : State} (hc : s.target.canIssue = true) (c : Cls) (x : EntryIdx) (e : Entry) :
    Upholds s (State.setEntry { s with target := s.target.afterIssue c } x (some { e with phase := .issued, writeData := [] })) where
  credit := (Balanced.of_ports rfl).creditLaw
  target hs := by
    have hstate : s.target.state = .online ∨ s.target.state = .suspect := by
      simp only [TargetPort.canIssue, Bool.and_eq_true, decide_eq_true_eq] at hc
      exact hc.1
    have hnear : ¬(s.target.state = .offline ∨ s.target.state = .resyncing) := by rcases hstate with h | h <;> simp [h]
    have hafter : (s.target.afterIssue c).state = s.target.state ∧ (s.target.afterIssue c).credits = s.target.credits - 1 ∧
        (s.target.afterIssue c).detachLimit = s.target.detachLimit := by cases c <;> exact ⟨rfl, rfl, rfl⟩
    obtain ⟨hst, hcr, hlim⟩ := hafter
    have hdetached : NoneNew Entry.detached s
        (State.setEntry { s with target := s.target.afterIssue c } x (some { e with phase := .issued, writeData := [] })) :=
      fun y f hf hd => by
        rw [entry_setEntry] at hf
        split at hf
        · cases hf; cases hd
        · exact ⟨f, hf, hd⟩
    refine ⟨⟨?_, fun ha => absurd (hst ▸ ha) hnear⟩, fun ha => absurd (hst ▸ ha) hnear, ?_⟩
    · rw [State.setEntry_target, hcr]
      exact (Nat.sub_le _ _).trans hs.credits.1
    · obtain ⟨hlo, hhi, hbelow⟩ := hs.quarantine
      rw [State.QuarantineLaw, State.setEntry_target, hst, hlim]
      exact ⟨hlo, hhi, fun ho => hdetached.countEntries_le.trans_lt (hbelow ho)⟩

theorem sendTarget_upholds (s : State) (m : ToTarget) : Upholds s (s.sendTarget m) := .of_same rfl rfl rfl rfl rfl

theorem issue_upholds (s : State) : Upholds s s.issue := by
  unfold State.issue
  split
  · rename_i hc
    split
    · exact .refl s
    · rename_i c x _
      split
      · exact .refl s
      · rename_i e _
        exact ((issueEntry_upholds hc c x e).trans (sendTarget_upholds _ _)).trans (report_upholds _ _ none)
  · exact .refl s

/-! ### The timers and the monitor's tick (chapters 5 and 7) -/

theorem expire_upholds (s : State) : Upholds s s.expire := by
  have hissued : NoneNew Entry.issued s s.expiryClaim.1 := by
    rw [expiryClaim_eq]
    exact noneNew_claim (expiring_steady s) (some .errTimeout) .timeout s
  exact (notices_upholds (expiryClaim_onlyClaims s) hissued).trans (Upholds.foldl _
    (fun t x => (logFault_upholds t _).trans (report_upholds _ _ none)) _ _)

theorem periodExpiry_upholds (s : State) : Upholds s s.periodExpiry := by
  have hset : Upholds s { s with regulation := { s.regulation with
      timer := some { ticks := 0 }, remaining := Vector.ofFn fun i => refilled (s.profile i) (s.remaining i) } } :=
    .of_same rfl rfl rfl rfl rfl
  unfold State.periodExpiry
  exact .ite (.ite (hset.trans (recheck_upholds _)) hset) (.refl s)

theorem offerSample_upholds (s : State) : Upholds s s.offerSample := by
  obtain ⟨b, h⟩ := offerSample_onlyMonitor s
  exact Upholds.trans (t := { s with sampleOwed := b }) (.of_same rfl rfl rfl rfl rfl) (upholds_of_onlyMonitor h)

theorem takeExpiry_upholds (s : State) : Upholds s s.takeExpiry := (expire_upholds s).trans (offerSample_upholds _)

theorem takePeriodExpiry_upholds (s : State) : Upholds s s.takePeriodExpiry := (periodExpiry_upholds s).trans (offerSample_upholds _)

theorem takeResyncWaitExpiry_upholds (s : State) : Upholds s s.takeResyncWaitExpiry :=
  (resyncWaitExpiry_upholds s).trans (offerSample_upholds _)

theorem countTick_upholds (s : State) : Upholds s s.countTick := by
  unfold State.countTick
  refine Upholds.trans ?_ (offerSample_upholds _)
  exact .of_same rfl rfl rfl rfl rfl

theorem tick_upholds (s : State) : Upholds s s.tick :=
  (((takeExpiry_upholds s).trans (takePeriodExpiry_upholds _)).trans (takeResyncWaitExpiry_upholds _)).trans (countTick_upholds _)

theorem countRefclk_upholds (s : State) : Upholds s s.countRefclk := by
  unfold State.countRefclk
  exact .ite (.of_same rfl rfl rfl rfl rfl) (tick_upholds s)

end Sys2Proof.Machine
end

section
/-!
The initiator ports, the commands and the resets keep the credit law and the target port's laws; O53 and O54.
-/

namespace Sys2Proof.Machine

/-! ### Arrival (R41) -/

/-- An event at the ports alone: the tracker and the target port stay. -/
def AtPorts (s t : State) : Prop := t.tracker = s.tracker ∧ t.target = s.target

theorem AtPorts.trans {s t u : State} (h : AtPorts s t) (k : AtPorts t u) : AtPorts s u := ⟨k.1.trans h.1, k.2.trans h.2⟩

theorem AtPorts.of_onlyHeads {s t : State} (h : OnlyHeads s t) : AtPorts s t := ⟨h.tracker, h.target⟩

theorem AtPorts.foldl {α : Type} (f : State → α → State) (hf : ∀ s a, AtPorts s (f s a)) (l : List α) (s : State) :
    AtPorts s (l.foldl f s) := by
  induction l generalizing s with
  | nil => exact ⟨rfl, rfl⟩
  | cons a l ih => exact (hf s a).trans (ih _)

theorem AtPorts.upholds {s t : State} (h : AtPorts s t) (hc : s.CreditLaw → t.CreditLaw) : Upholds s t where
  credit := hc
  target hs := hs.congr h.1 (by rw [h.2]) (by rw [h.2]) (by rw [h.2])

theorem refuse_atPorts (s : State) (i : Initiator) (r : Request) : AtPorts s (s.refuse i r) :=
  .of_onlyHeads ((send_onlyHeads s i _).trans (report_onlyHeads _ _))

theorem refuseWithCredit_atPorts (s : State) (i : Initiator) (r : Request) : AtPorts s (s.refuseWithCredit i r) :=
  .of_onlyHeads (((send_onlyHeads s i _).trans (returnCredit_onlyHeads _ i)).trans (report_onlyHeads _ _))

theorem refuse_ports (s : State) (i : Initiator) (r : Request) : (s.refuse i r).ports = s.ports := (report_onlyMonitor _ _ none).ports

/-- A refusal with credit raises the granted count by 1 (R39). -/
theorem port_refuseWithCredit (s : State) (i j : Initiator) (r : Request) : (s.refuseWithCredit i r).port j =
    if i = j then { s.port j with granted := (s.port j).granted + 1 } else s.port j := by
  unfold State.refuseWithCredit
  rw [port_of_ports (report_onlyMonitor _ _ none).ports, port_returnCredit, port_of_ports (State.send_ports ..)]

/-- The state in which a REQUEST has taken its credit (R41 step 4). -/
def State.takeGrant (s : State) (i : Initiator) : State := s.modPort i fun p => { p with granted := p.granted - 1 }

theorem port_takeGrant (s : State) (i j : Initiator) :
    (s.takeGrant i).port j = if i = j then { s.port j with granted := (s.port j).granted - 1 } else s.port j := port_modPort s i j _

/-- A credit taken and returned leaves every port. -/
theorem port_of_creditReturned {s t : State} {i : Initiator} (hg : (s.port i).granted ≠ 0)
    (h : ∀ j, t.port j = if i = j then { (s.takeGrant i).port j with granted := ((s.takeGrant i).port j).granted + 1 }
      else (s.takeGrant i).port j) (j : Initiator) : t.port j = s.port j := by
  rw [h, port_takeGrant]
  by_cases hij : i = j
  · subst hij
    have hsum : (s.port i).granted - 1 + 1 = (s.port i).granted := Nat.succ_pred_eq_of_ne_zero hg
    simp only [if_true, hsum]
  · simp only [if_neg hij]

theorem creditLaw_of_port {s t : State} (h : ∀ j, t.port j = s.port j) (hs : s.CreditLaw) : t.CreditLaw := fun i => by
  rw [h i]
  exact hs i

/-- A request that takes a credit and joins the queue of an ACTIVE port keeps the law (R41 step 8, R45). -/
theorem append_credit {s : State} {i : Initiator} (r : Request) (ha : (s.port i).state = .active) (hg : (s.port i).granted ≠ 0)
    (hs : s.CreditLaw) : ((s.takeGrant i).modPort i fun p => { p with queue := p.queue ++ [r] }).CreditLaw := fun j => by
  rw [port_modPort, port_takeGrant]
  by_cases hij : i = j
  · subst hij
    obtain ⟨hopen, -, -⟩ := hs i
    have hsum := hopen (.inl ha)
    simp only [if_true, ha, List.length_append, List.length_singleton, reduceCtorEq, or_self, false_implies, ne_eq, not_true_eq_false, and_self,
      and_true, true_or, true_implies]
    omega
  · simp only [if_neg hij]
    exact hs j

theorem appendRequest_upholds {s : State} {i : Initiator} (r : Request) (ha : (s.port i).state = .active) (hg : (s.port i).granted ≠ 0) :
    Upholds s ((s.takeGrant i).appendRequest i r) := by
  have happend : Upholds s ((s.takeGrant i).modPort i fun p => { p with queue := p.queue ++ [r] }) :=
    AtPorts.upholds ⟨rfl, rfl⟩ (append_credit r ha hg)
  unfold State.appendRequest
  exact .ite (happend.trans (headArrives_upholds _ i)) happend

/-- The checks behind the credit keep the laws: the credit is returned, or the request is queued at an ACTIVE port. -/
theorem checkArrival_upholds {s : State} {i : Initiator} (r : Request) (ho : (s.port i).state = .active ∨ (s.port i).state = .draining)
    (hg : (s.port i).granted ≠ 0) : Upholds s ((s.takeGrant i).checkArrival i r) := by
  have hreturn : Upholds s ((s.takeGrant i).returnCredit i) :=
    AtPorts.upholds ⟨rfl, rfl⟩ (creditLaw_of_port (port_of_creditReturned hg fun j => port_returnCredit _ i j))
  have hrefuse : Upholds s ((s.takeGrant i).refuseWithCredit i r) :=
    AtPorts.upholds (AtPorts.trans ⟨rfl, rfl⟩ (refuseWithCredit_atPorts (s.takeGrant i) i r))
      (creditLaw_of_port (port_of_creditReturned hg fun j => port_refuseWithCredit _ i j r))
  have hstate : ((s.takeGrant i).port i).state = (s.port i).state := by rw [port_takeGrant, if_pos rfl]
  unfold State.checkArrival
  split
  · exact hreturn.trans (logFault_upholds _ _)
  · split
    · exact hrefuse.trans (logFault_upholds _ _)
    · split
      · exact hrefuse
      · rename_i hnd
        exact appendRequest_upholds r (ho.resolve_right fun hd => hnd (hstate.trans hd)) hg

theorem arrive_upholds (s : State) (i : Initiator) (r : Request) : Upholds s (s.arrive i r) := by
  unfold State.arrive
  split
  · exact logFault_upholds s _
  · exact (refuse_atPorts s i r).upholds (Balanced.of_ports (refuse_ports s i r)).creditLaw
  · rename_i hnd hnf
    split
    · exact logFault_upholds s _
    · rename_i hg
      refine checkArrival_upholds r ?_ hg
      cases hp : (s.port i).state
      · exact absurd hp hnd
      · exact .inl rfl
      · exact .inr rfl
      · exact absurd hp hnf

/-! ### Opening and closing a port (chapter 8) -/

/-- An event that leaves one port lawful and every other as it was keeps the credit law. -/
theorem creditLaw_of_one {s t : State} {i : Initiator} (hi : s.CreditLaw → (t.port i).Lawful) (hj : ∀ j, i ≠ j → t.port j = s.port j)
    (hs : s.CreditLaw) : t.CreditLaw := fun j => by
  by_cases hij : i = j
  · exact hij ▸ hi hs
  · rw [hj j hij]
    exact hs j

/-- A closed port, with nothing granted and nothing queued (R137). -/
theorem lawful_of_closed {p : Port} (hst : p.state = .disabled ∨ p.state = .fenced) (hg : p.granted = 0) (hq : p.queue = []) : p.Lawful :=
  ⟨fun h => by rcases hst with hst | hst <;> simp [hst] at h, fun _ => hg, fun _ => hq⟩

theorem takeZeroNotice_upholds (s : State) (i : Initiator) : Upholds s (s.takeZeroNotice i) := by
  unfold State.takeZeroNotice
  split
  · rename_i h
    have hport : ∀ j, (s.completeDrain i).port j = if i = j then { s.port j with state := .fenced, granted := 0 } else s.port j :=
      fun j => port_modPort (s.send i .revoke) i j _
    refine AtPorts.upholds ⟨rfl, rfl⟩ (creditLaw_of_one (i := i) (fun hs => ?_) fun j hij => by rw [hport, if_neg hij])
    obtain ⟨-, -, hempty⟩ := hs i
    rw [hport, if_pos rfl]
    exact lawful_of_closed (.inr rfl) rfl (hempty (by simp [h.1]))
  · exact .refl s

theorem enablePort_upholds (s : State) (i : Initiator) : Upholds s (s.enablePort i).1 := by
  have hopen : (s.port i).state ≠ .active →
      Upholds s ((s.send i (.credit 8)).modPort i fun p => { p with state := .active, granted := 8 }) := fun hna => by
    have hport := port_modPort (s.send i (.credit 8)) i
    refine AtPorts.upholds ⟨rfl, rfl⟩ (creditLaw_of_one (i := i) (fun hs => ?_) fun j hij => by rw [hport, if_neg hij]; rfl)
    obtain ⟨-, -, hempty⟩ := hs i
    have hq : ((s.send i (.credit 8)).port i).queue = [] := hempty hna
    rw [hport, if_pos rfl]
    exact ⟨fun _ => by simp [hq], by simp, by simp⟩
  unfold State.enablePort
  split
  · exact hopen (by simp [*])
  · exact hopen (by simp [*])
  · exact .refl s
  · exact .refl s

/-- A queue refused with credits: the queue is empty, each of its requests has returned its credit, and the other ports stay (R140). -/
theorem port_refuseQueueWithCredit (s : State) (i j : Initiator) : (s.refuseQueueWithCredit i).port j =
    if i = j then { s.port j with granted := (s.port j).granted + (s.port j).queue.length, queue := [] } else s.port j := by
  have fold : ∀ (q : List Request) (t : State), (q.foldl (fun t r => t.refuseWithCredit i r) t).port j =
      if i = j then { t.port j with granted := (t.port j).granted + q.length } else t.port j := by
    intro q
    induction q with
    | nil => simp
    | cons r q ih =>
      intro t
      rw [List.foldl_cons, ih, port_refuseWithCredit]
      split
      · simp only [List.length_cons, Port.mk.injEq, true_and, and_true]
        omega
      · rfl
  rw [State.refuseQueueWithCredit, fold, port_modPort]
  by_cases hij : i = j
  · subst hij
    simp
  · simp only [if_neg hij]

theorem refuseQueueWithCredit_atPorts (s : State) (i : Initiator) : AtPorts s (s.refuseQueueWithCredit i) :=
  AtPorts.trans (t := s.modPort i fun p => { p with queue := [] }) ⟨rfl, rfl⟩
    (AtPorts.foldl _ (fun t r => refuseWithCredit_atPorts t i r) _ _)

theorem drainPort_upholds (s : State) (i : Initiator) : Upholds s (s.drainPort i).1 := by
  unfold State.drainPort
  split
  · rename_i ha
    have hatPorts := refuseQueueWithCredit_atPorts s i
    have hport := port_refuseQueueWithCredit s i
    simp only
    generalize s.refuseQueueWithCredit i = u at hatPorts hport
    refine Upholds.trans ?_ (takeZeroNotice_upholds _ i)
    refine AtPorts.upholds (hatPorts.trans ⟨rfl, rfl⟩) (creditLaw_of_one (i := i) (fun hs => ?_) fun j hij => ?_)
    · obtain ⟨hopen, -, -⟩ := hs i
      rw [port_setHead, port_modPort, if_pos rfl, hport, if_pos rfl]
      exact ⟨fun _ => hopen (.inl ha), by simp, fun _ => rfl⟩
    · rw [port_setHead, port_modPort, if_neg hij, hport, if_neg hij]
  all_goals exact .refl s

/-- A port closed by a claim: the others stay as the claim found them, and its notices follow (R144, R147). -/
theorem closeByClaim_upholds {s u v : State} {i : Initiator} (hc : Claims s u) (hv : AtPorts u v)
    (hi : v.port i = { state := .fenced, granted := 0, queue := [] }) (hj : ∀ j, i ≠ j → v.port j = s.port j) :
    Upholds s (State.notices s v) where
  credit hs := (notices_balanced s v).creditLaw
    (creditLaw_of_one (i := i) (fun _ => by rw [hi]; exact lawful_of_closed (.inr rfl) rfl rfl) hj hs)
  target := targetLaws_notices (hc.congr hv.1 hv.2)

theorem port_closePort (s : State) (i j : Initiator) (st : PortState) :
    (s.closePort i st).port j = if i = j then { state := st, granted := 0, queue := [] } else s.port j := by
  rw [State.closePort, port_setHead, port_modPort]

theorem refuseQueue_atPorts (s : State) (i : Initiator) : AtPorts s (s.refuseQueue i) :=
  AtPorts.trans (t := s.modPort i fun p => { p with queue := [] }) ⟨rfl, rfl⟩ (AtPorts.foldl _ (fun t r => refuse_atPorts t i r) _ _)

/-- A queue refused without credits leaves the other ports (R144). -/
theorem port_refuseQueue_other (s : State) {i j : Initiator} (hij : i ≠ j) : (s.refuseQueue i).port j = s.port j := by
  have fold : ∀ (q : List Request) (t : State), (q.foldl (fun t r => t.refuse i r) t).port j = t.port j := by
    intro q
    induction q with
    | nil => exact fun _ => rfl
    | cons r q ih => exact fun t => (ih _).trans (refuse_port t i j r)
  rw [State.refuseQueue, fold, port_modPort, if_neg hij]

/-- An event at the ports, then a claim of initiator `i`. -/
theorem claims_of_atPorts {s t u : State} (h : AtPorts s t) (hc : OnlyClaims t u) (hi : NoneNew Entry.issued t u) : Claims s u where
  state := by rw [hc.targetState, h.2]
  credits := by rw [hc.credits, h.2]
  limit := by rw [hc.detachLimit, h.2]
  issued := (NoneNew.of_tracker h.1 _).trans hi

theorem fence_upholds (s : State) (i : Initiator) : Upholds s (s.fence i) := by
  have hatPorts : AtPorts s ((s.refuseQueue i).setHead i .noHead) := (refuseQueue_atPorts s i).trans ⟨rfl, rfl⟩
  have hports : ∀ j, i ≠ j → ((s.refuseQueue i).setHead i .noHead).port j = s.port j := fun j hij => by
    rw [port_setHead, port_refuseQueue_other s hij]
  have hissued := noneNew_claim (steady_initiator i) (some .errRefused) .fence ((s.refuseQueue i).setHead i .noHead)
  have hclaim := fenceClaim_onlyClaims ((s.refuseQueue i).setHead i .noHead) i
  unfold State.fence
  simp only
  generalize (s.refuseQueue i).setHead i .noHead = t at hatPorts hports hissued hclaim
  have hclaims := claims_of_atPorts hatPorts hclaim hissued
  generalize t.fenceClaim i = u at hclaim hclaims
  refine closeByClaim_upholds (i := i) hclaims ⟨rfl, rfl⟩ (by rw [port_closePort, if_pos rfl]) fun j hij => ?_
  rw [port_closePort, if_neg hij, port_of_ports (State.send_ports ..), port_of_ports hclaim.ports, hports j hij]

theorem fencePort_upholds (s : State) (i : Initiator) : Upholds s (s.fencePort i).1 := by
  have hnotice := takeZeroNotice_upholds s i
  unfold State.fencePort
  simp only
  split <;> simp only
  · exact hnotice.trans (fence_upholds _ i)
  · exact hnotice.trans (fence_upholds _ i)
  · exact hnotice
  · exact hnotice

theorem resetPort_upholds (s : State) (i : Initiator) : Upholds s (s.resetPort i) := by
  have hatPorts : AtPorts s ((s.modPort i fun p => { p with queue := [] }).setHead i .noHead) := ⟨rfl, rfl⟩
  have hports : ∀ j, i ≠ j → ((s.modPort i fun p => { p with queue := [] }).setHead i .noHead).port j = s.port j := fun j hij => by
    rw [port_setHead, port_modPort, if_neg hij]
  unfold State.resetPort
  simp only
  generalize (s.modPort i fun p => { p with queue := [] }).setHead i .noHead = t at hatPorts hports
  have hissued := noneNew_claim (steady_initiator i) none .linkReset t
  have hclaim : OnlyClaims t (t.linkResetClaim i) := by unfold State.linkResetClaim; exact claim_onlyClaims ..
  have hclaims := claims_of_atPorts hatPorts hclaim hissued
  generalize t.linkResetClaim i = u at hclaim hclaims
  have hport : ∀ j, (((u.closePort i .fenced).raise (.portReset i)).logFault (linkResetFault i)).port j =
      if i = j then { state := .fenced, granted := 0, queue := [] } else u.port j := fun j => by
    rw [port_of_ports (logFault_ports ..), port_of_ports (State.raise_ports ..), port_closePort]
  refine closeByClaim_upholds (i := i) hclaims ⟨logFault_tracker .., logFault_target ..⟩ (by rw [hport, if_pos rfl]) fun j hij => ?_
  rw [hport, if_neg hij, port_of_ports hclaim.ports, hports j hij]

theorem linkReset_upholds (s : State) (i : Initiator) : Upholds s (s.linkReset i) := by
  have hnotice := takeZeroNotice_upholds s i
  unfold State.linkReset
  simp only
  split
  · exact hnotice.trans (logFault_upholds _ _)
  all_goals exact hnotice.trans (resetPort_upholds _ i)

theorem takeUndefined_upholds (s : State) (l : Link) : Upholds s (s.takeUndefined l) := by
  cases l
  · exact logFault_upholds s _
  · exact logFault_upholds s _

/-! ### Resets (R193, R195) -/

/-- A reset of every port, every entry and the target's credits keeps both laws where the limit is kept. -/
theorem upholds_of_reset {s t : State} (hp : ∀ i, t.port i = .reset) (hx : ∀ x, t.entry x = none) (hst : t.target.state = .offline)
    (hcr : t.target.credits = 0)
    (hlim : 1 ≤ s.target.detachLimit → s.target.detachLimit ≤ 64 → 1 ≤ t.target.detachLimit ∧ t.target.detachLimit ≤ 64) :
    Upholds s t where
  credit _ i := by
    rw [hp i]
    exact lawful_of_closed (.inl rfl) rfl rfl
  target hs := by
    obtain ⟨hlo, hhi, -⟩ := hs.quarantine
    obtain ⟨hlo', hhi'⟩ := hlim hlo hhi
    refine ⟨⟨by omega, fun _ => hcr⟩, fun _ x e he => ?_, hlo', hhi', fun ho => ?_⟩
    · simp [hx x] at he
    · simp [hst] at ho

theorem trafficReset_upholds (s : State) : Upholds s s.trafficReset := by
  have hports := fun i => (foldl_resetPortTraffic initiators s i).2 (.inl (mem_initiators i))
  have hlimit : (initiators.foldl State.resetPortTraffic s).target.detachLimit = s.target.detachLimit :=
    List.foldlRecOn (motive := fun t => t.target.detachLimit = s.target.detachLimit) initiators State.resetPortTraffic rfl fun t ht i _ => by
      refine Eq.trans ?_ ht
      unfold State.resetPortTraffic
      simp only
      split <;> rfl
  obtain ⟨hx, -, -, -⟩ := trafficReset_clears s
  unfold State.trafficReset at hx ⊢
  generalize initiators.foldl State.resetPortTraffic s = t at hports hlimit hx
  have hreset : t.clearTraffic.resetTarget.ports = t.ports ∧ t.clearTraffic.resetTarget.target.state = .offline ∧
      t.clearTraffic.resetTarget.target.credits = 0 ∧ t.clearTraffic.resetTarget.target.detachLimit = t.target.detachLimit := by
    unfold State.resetTarget
    simp only
    split <;> exact ⟨rfl, rfl, rfl, rfl⟩
  obtain ⟨hp, hst, hcr, hlim⟩ := hreset
  exact upholds_of_reset (fun i => by rw [port_of_ports hp, hports]) hx hst hcr fun hlo hhi => by rw [hlim, hlimit]; exact ⟨hlo, hhi⟩

theorem deviceReset_upholds (s : State) : Upholds s s.deviceReset :=
  upholds_of_reset (fun i => by simp [State.port, State.deviceReset, State.reset]) (entry_deviceReset s) rfl rfl fun _ _ => by
    simp [State.deviceReset, State.reset]

/-! ### Commands and register writes (R187, R190) -/

theorem withArgument_upholds (s : State) (n : Nat) (code : Word) (act : Fin n → State → State × CommandStatus)
    (h : ∀ k, Upholds s (act k s).1) : Upholds s (s.withArgument n code act) := by
  unfold State.withArgument
  split
  · exact (h _).trans (complete_upholds _ _ _)
  · exact complete_upholds s _ _

theorem commitWindow_upholds (s : State) (w : WindowIdx) : Upholds s (s.commitWindow w).1 := by
  unfold State.commitWindow
  split
  · refine Upholds.trans ?_ (recheck_upholds _)
    exact .of_same rfl rfl rfl rfl rfl
  · exact .of_same rfl rfl rfl rfl rfl

theorem commitProfile_upholds (s : State) (i : Initiator) : Upholds s (s.commitProfile i).1 := by
  unfold State.commitProfile
  split
  · refine Upholds.trans ?_ (recheck_upholds _)
    exact .of_same rfl rfl rfl rfl rfl
  · exact .of_same rfl rfl rfl rfl rfl

theorem commandWriteEdges_upholds (s : State) : Upholds s s.commandWriteEdges := by
  unfold State.commandWriteEdges
  split
  · refine Upholds.trans ?_ (complete_upholds _ _ _)
    exact .of_same rfl rfl rfl rfl rfl
  · refine Upholds.trans ?_ (complete_upholds _ _ _)
    exact .of_same rfl rfl rfl rfl rfl

theorem commandFaultPop_upholds (s : State) : Upholds s s.commandFaultPop := by
  unfold State.commandFaultPop
  split
  · exact complete_upholds s _ _
  · refine Upholds.trans ?_ (complete_upholds _ _ _)
    exact .of_same rfl rfl rfl rfl rfl

theorem reloadBudget_upholds (s : State) (i : Initiator) : Upholds s (s.reloadBudget i) := by
  unfold State.reloadBudget
  refine Upholds.trans ?_ (recheck_upholds _)
  exact .of_same rfl rfl rfl rfl rfl

/-- A command of the command register (R190). -/
theorem writeCommand_upholds (s : State) (code : Word) : Upholds s (s.writeCommand code) := by
  have same : ∀ {n code} {act : Fin n → State → State}, (∀ k, Upholds s (act k s)) →
      Upholds s (s.withArgument n code fun k t => (act k t, .done)) := fun h => withArgument_upholds s _ _ _ h
  unfold State.writeCommand
  refine .ite (withArgument_upholds s _ _ _ (enablePort_upholds s)) ?_
  refine .ite (withArgument_upholds s _ _ _ (drainPort_upholds s)) ?_
  refine .ite (withArgument_upholds s _ _ _ (fencePort_upholds s)) ?_
  refine .ite (commandResync_upholds s) ?_
  refine .ite (commandOffline_upholds s) ?_
  refine .ite (withArgument_upholds s _ _ _ (commitWindow_upholds s)) ?_
  refine .ite (same fun _ => .of_same rfl rfl rfl rfl rfl) ?_
  refine .ite (withArgument_upholds s _ _ _ (commitProfile_upholds s)) ?_
  refine .ite (same fun _ => .of_same rfl rfl rfl rfl rfl) ?_
  refine .ite (commandWriteEdges_upholds s) ?_
  refine .ite (same fun i => reloadBudget_upholds s i) ?_
  refine .ite (same fun _ => .of_same rfl rfl rfl rfl rfl) ?_
  refine .ite (.trans (t := s.setBank .frozen) (.of_same rfl rfl rfl rfl rfl) (complete_upholds ..)) ?_
  refine .ite (.trans (t := s.setBank .running) (.of_same rfl rfl rfl rfl rfl) (complete_upholds ..)) ?_
  refine .ite (.trans (t := s.clearCounters) (.of_same rfl rfl rfl rfl rfl) (complete_upholds ..)) ?_
  refine .ite (same fun _ => .of_same rfl rfl rfl rfl rfl) ?_
  refine .ite (commandFaultPop_upholds s) ?_
  exact .ite ((trafficReset_upholds s).trans (complete_upholds ..)) (complete_upholds s _ _)

theorem writeCounterWord_upholds (s : State) (c : CounterIdx) (k : Nat) (v : Word) : Upholds s (s.writeCounterWord c k v) := by
  unfold State.writeCounterWord
  split <;> exact .of_same rfl rfl rfl rfl rfl

/-- A write of any address (R187). -/
theorem writeWord_upholds (s : State) (a : BitVec 8) (v : Word) : Upholds s (s.writeWord a v) := by
  unfold State.writeWord
  refine .ite (.of_same rfl rfl rfl rfl rfl) ?_
  refine .ite (.of_same rfl rfl rfl rfl rfl) ?_
  refine .ite (writeDetachLimit_upholds s v) ?_
  refine .ite (.of_same rfl rfl rfl rfl rfl) ?_
  refine .ite (.of_same rfl rfl rfl rfl rfl) ?_
  refine .ite (.of_same rfl rfl rfl rfl rfl) ?_
  refine .ite (writeCommand_upholds s v) ?_
  refine .ite (.of_same rfl rfl rfl rfl rfl) ?_
  refine .ite (.of_same rfl rfl rfl rfl rfl) ?_
  refine .ite (writeCounterWord_upholds s _ _ v) ?_
  refine .ite (.of_same rfl rfl rfl rfl rfl) ?_
  exact .ite (.of_same rfl rfl rfl rfl rfl) (.refl s)

/-! ### Every command and every step -/

/-- A command that acts out of reset alone keeps the laws where its act does. -/
theorem upholds_of_next {f : State → State} {s t : State} (h : Upholds s (f s))
    (he : (.next (s.outOfReset f) : Host.Outcome State Fault Refusal) = .next t) : Upholds s t := by
  cases he
  exact .ite h (.refl s)

/-- A row of the command register keeps the laws. -/
theorem upholds_of_commandOfCode {s t : State} (code : Word) (he : exec (commandOfCode code) s = .next t) : Upholds s t := by
  rw [exec_commandOfCode] at he
  exact upholds_of_next (f := fun t => t.writeCommand code) (writeCommand_upholds s code) he

/-- A row of the register window keeps the laws. -/
theorem upholds_of_writeCommandAt {s t : State} (a : BitVec 8) (v : Word) (he : exec (writeCommandAt a v) s = .next t) : Upholds s t := by
  rw [exec_writeCommandAt] at he
  exact upholds_of_next (f := fun t => t.writeWord a v) (writeWord_upholds s a v) he

/-- Every command keeps the credit law and the target port's laws. -/
theorem exec_upholds {c : Instr} {s t : State} (h : exec c s = .next t) : Upholds s t := by
  cases c with
  | request i r => exact upholds_of_next (f := fun t => t.arrive i r) (arrive_upholds s i r) h
  | linkReset i => exact upholds_of_next (f := fun t => t.linkReset i) (linkReset_upholds s i) h
  | undefinedKindMessage l k => exact upholds_of_next (f := fun t => t.takeUndefined l) (takeUndefined_upholds s l) h
  | targetResponse r => exact upholds_of_next (f := fun t => t.takeResponse r) (takeResponse_upholds s r) h
  | targetCredit n => exact upholds_of_next (f := fun t => t.takeCredit n) (takeCredit_upholds s n) h
  | resyncAck n => exact upholds_of_next (f := fun t => t.takeAck n) (takeAck_upholds s n) h
  | resetNotice n => exact upholds_of_next (f := fun t => t.takeResetNotice n) (takeResetNotice_upholds s n) h
  | tick => exact upholds_of_next (tick_upholds s) h
  | expiryClaim => exact upholds_of_next (takeExpiry_upholds s) h
  | periodExpiry => exact upholds_of_next (takePeriodExpiry_upholds s) h
  | resyncWaitExpiry => exact upholds_of_next (takeResyncWaitExpiry_upholds s) h
  | grant => exact upholds_of_next (grant_upholds s) h
  | issue => exact upholds_of_next (issue_upholds s) h
  | drainCompletion p => exact upholds_of_next (f := fun t => t.takeZeroNotice p) (takeZeroNotice_upholds s p) h
  | deviceReset => cases h; exact deviceReset_upholds s
  | portEnable => exact upholds_of_commandOfCode Config.codePortEnable h
  | portDrain => exact upholds_of_commandOfCode Config.codePortDrain h
  | portFence => exact upholds_of_commandOfCode Config.codePortFence h
  | targetResync => exact upholds_of_commandOfCode Config.codeTargetResync h
  | targetOffline => exact upholds_of_commandOfCode Config.codeTargetOffline h
  | writeWindow => exact upholds_of_commandOfCode Config.codeWriteWindow h
  | readWindow => exact upholds_of_commandOfCode Config.codeReadWindow h
  | writeProfile => exact upholds_of_commandOfCode Config.codeWriteProfile h
  | readProfile => exact upholds_of_commandOfCode Config.codeReadProfile h
  | writeEdges => exact upholds_of_commandOfCode Config.codeWriteEdges h
  | budgetReload => exact upholds_of_commandOfCode Config.codeBudgetReload h
  | histClear => exact upholds_of_commandOfCode Config.codeHistClear h
  | counterFreeze => exact upholds_of_commandOfCode Config.codeCounterFreeze h
  | counterUnfreeze => exact upholds_of_commandOfCode Config.codeCounterUnfreeze h
  | counterClear => exact upholds_of_commandOfCode Config.codeCounterClear h
  | trackerSnapshot => exact upholds_of_commandOfCode Config.codeTrackerSnapshot h
  | faultPop => exact upholds_of_commandOfCode Config.codeFaultPop h
  | trafficReset => exact upholds_of_commandOfCode Config.codeTrafficReset h
  | unassignedCommand code => exact upholds_of_next (f := fun t => t.writeCommand code) (writeCommand_upholds s code) h
  | prescalerWrite v => exact upholds_of_writeCommandAt 0x08 v h
  | regulationPeriodWrite v => exact upholds_of_writeCommandAt 0x09 v h
  | detachLimitWrite v => exact upholds_of_writeCommandAt 0x0A v h
  | resyncWaitWrite v => exact upholds_of_writeCommandAt 0x0B v h
  | tickCountLowRead => exact upholds_of_next (f := State.readTickLow) (.of_same rfl rfl rfl rfl rfl) h
  | interruptFlagsWrite v => exact upholds_of_writeCommandAt 0x10 v h
  | interruptEnablesWrite v => exact upholds_of_writeCommandAt 0x11 v h
  | counterValueLowRead c => exact upholds_of_next (f := fun t => t.readCounterLow c) (.of_same rfl rfl rfl rfl rfl) h
  | counterValueHighWrite c v => exact upholds_of_next (f := fun t => t.writeCounterHigh c v) (.of_same rfl rfl rfl rfl rfl) h
  | counterValueLowWrite c v => exact upholds_of_next (f := fun t => t.writeCounterLow c v) (.of_same rfl rfl rfl rfl rfl) h
  | counterControlWrite c w v => exact upholds_of_next (f := fun t => t.writeControl c w v) (.of_same rfl rfl rfl rfl rfl) h
  | counterOverflowFlagsWrite v => exact upholds_of_writeCommandAt 0x98 v h
  | histogramIndexWrite v => exact upholds_of_writeCommandAt 0xA8 v h
  | stagingWrite k v => exact upholds_of_next (f := fun t => t.setStaged k v) (.of_same rfl rfl rfl rfl rfl) h
  | registerWrite a v => exact upholds_of_next (f := fun t => t.writeWord a v) (writeWord_upholds s a v) h

/-- Every step keeps the credit law and the target port's laws. -/
theorem step_upholds {s t : State} (h : step s = .next t) : Upholds s t := by
  unfold step at h
  split at h
  · exact upholds_of_next (countRefclk_upholds s) h
  · rename_i c rest _
    exact Upholds.trans (t := { s with pending := rest }) (.of_same rfl rfl rfl rfl rfl) (exec_upholds h)

/-- Settles O53: requests that leave a queue return their credits, those that join one took theirs, and a port that opens or closes starts
from its law; so every event keeps it. -/
theorem creditLawIsKept : Obligations.CreditLawIsKept := fun _ _ hs hstep => (step_upholds hstep).credit hs

/-- Settles O54: a claim that detaches is followed by its notice, and a target that goes away first loses its credits and its ISSUED
entries; so every event keeps the target port's laws. -/
theorem targetLawsAreKept : Obligations.TargetLawsAreKept := by
  rintro s t ⟨hcredits, hissued, hquarantine⟩ hstep
  obtain ⟨hcredits', hissued', hquarantine'⟩ := (step_upholds hstep).target ⟨hcredits, hissued, hquarantine⟩
  exact ⟨hcredits', hissued', hquarantine'⟩

end Sys2Proof.Machine
end

section
/-!
Header fields on the wire (R30), and O12: what is put on the wire by its fields is read back, and the headers the part sends.
-/

namespace Sys2Proof.Machine

/-! ### One field -/

@[simp] theorem length_fieldBits (w n : Nat) : (fieldBits w n).length = w := by simp [fieldBits]

/-- A field is the field of the number's half, one bit narrower, and behind it the last bit. -/
theorem fieldBits_succ (w n : Nat) : fieldBits (w + 1) n = fieldBits w (n / 2) ++ [n.testBit 0] := by
  have hshift : ∀ k ∈ List.range w, n.testBit (w + 1 - 1 - k) = (n / 2).testBit (w - 1 - k) := fun k hk => by
    have hlt := List.mem_range.mp hk
    rw [← Nat.testBit_succ]
    congr 1
    omega
  rw [fieldBits, List.range_succ, List.map_append, List.map_congr_left hshift, List.map_singleton, Nat.add_sub_cancel, Nat.sub_self]
  rfl

/-- A field spells its number modulo the width. -/
theorem bitsValue_fieldBits (w n : Nat) : bitsValue (fieldBits w n) = n % 2 ^ w := by
  induction w generalizing n with
  | zero => rw [Nat.pow_zero, Nat.mod_one]; rfl
  | succ w ih =>
    have hlast : bitsValue (fieldBits w (n / 2) ++ [n.testBit 0]) = 2 * bitsValue (fieldBits w (n / 2)) + (n.testBit 0).toNat := by
      rw [bitsValue, List.foldl_append]
      rfl
    rw [fieldBits_succ, hlast, ih, Nat.toNat_testBit, Nat.pow_zero, Nat.div_one, Nat.pow_succ', Nat.mod_mul, Nat.add_comm]

/-- A field is taken off the front of a header that begins with it. -/
theorem takeField_fieldBits (w : Nat) {n : Nat} (h : n < 2 ^ w) (rest : List Bool) :
    takeField w (fieldBits w n ++ rest) = some (n, rest) := by
  have htake : (fieldBits w n ++ rest).take w = fieldBits w n := List.take_left' (length_fieldBits w n)
  have hdrop : (fieldBits w n ++ rest).drop w = rest := List.drop_left' (length_fieldBits w n)
  rw [takeField, if_neg (by simp), htake, hdrop, bitsValue_fieldBits, Nat.mod_eq_of_lt h]

/-- The number in `width` bits of a header from `place` on. -/
def fieldAt (h : List Bool) (place width : Nat) : Nat := bitsValue ((h.drop place).take width)

theorem fieldAt_zero (w : Nat) {n : Nat} (h : n < 2 ^ w) (rest : List Bool) : fieldAt (fieldBits w n ++ rest) 0 w = n := by
  rw [fieldAt, List.drop_zero, List.take_left' (length_fieldBits w n), bitsValue_fieldBits, Nat.mod_eq_of_lt h]

/-- The fields behind the first one. -/
theorem fieldAt_add (w n : Nat) (rest : List Bool) (place width : Nat) :
    fieldAt (fieldBits w n ++ rest) (w + place) width = fieldAt rest place width := by
  rw [fieldAt, ← List.drop_drop, List.drop_left' (length_fieldBits w n)]
  rfl

/-! ### Arriving messages (R30, R31) -/

/-- A kind code that is not defined for an initiator link is read as such, whatever follows it (R31). -/
theorem fromInitiator_undefined {i : Initiator} {k : Nat} (hk : k < 16) (h : (Link.initiator i).definesKind k = false) (rest : List Bool)
    (d : List WriteBeat) :
    FromInitiator.command { header := fieldBits kindWidth k ++ rest, records := d } i = some (.undefinedKindMessage (.initiator i) k) := by
  unfold Link.definesKind at h
  simp only [FromInitiator.command, takeField_fieldBits kindWidth hk]
  cases hc : MessageKind.ofCode k with
  | none => rfl
  | some m =>
    rw [hc] at h
    cases m with
    | request => cases h
    | linkReset => cases h
    | _ => rfl

theorem fromTarget_undefined {k : Nat} (hk : k < 16) (h : Link.target.definesKind k = false) (rest : List Bool) (d : List DataBeat) :
    FromTarget.command { header := fieldBits kindWidth k ++ rest, records := d } = some (.undefinedKindMessage .target k) := by
  unfold Link.definesKind at h
  simp only [FromTarget.command, takeField_fieldBits kindWidth hk]
  cases hc : MessageKind.ofCode k with
  | none => rfl
  | some m =>
    rw [hc] at h
    cases m with
    | response => cases h
    | credit => cases h
    | resyncAck => cases h
    | resetNotice => cases h
    | _ => rfl

theorem opCode_lt (op : Op) : opCode op < 2 := by cases op <;> decide

theorem opOfBit_opCode (op : Op) : opOfBit (opCode op) = op := by cases op <;> rfl

theorem targetStatusCode_lt (st : TargetStatus) : targetStatusCode st < 2 := by cases st <;> decide

theorem targetStatusOfBit_code (st : TargetStatus) : targetStatusOfBit (targetStatusCode st) = st := by cases st <;> rfl

/-- A request put on the wire by its fields is read back (R30, R32). -/
theorem readRequest_fields (i : Initiator) (r : Request) (h : r.beats < 16) :
    readRequest i (fieldBits initiatorTagWidth r.tag ++ (fieldBits 1 (opCode r.op) ++ (fieldBits beatsWidth r.beats ++
      (fieldBits addressWidth r.address.toNat ++ [])))) r.data = some (.request i r) := by
  simp only [readRequest, takeField_fieldBits initiatorTagWidth r.tag.isLt, takeField_fieldBits 1 (opCode_lt r.op),
    takeField_fieldBits beatsWidth h, takeField_fieldBits addressWidth r.address.isLt, opOfBit_opCode, BitVec.ofNat_toNat, BitVec.setWidth_eq,
    Fin.ofNat_val_eq_self]

/-- So is a response (R30, R37). -/
theorem readResponse_fields (r : Response) (h : r.dataCount < 16) :
    readResponse (fieldBits targetTagWidth r.tag ++ (fieldBits 1 (targetStatusCode r.status) ++ (fieldBits beatsWidth r.dataCount ++ []))) r.data =
      some (.targetResponse r) := by
  simp only [readResponse, takeField_fieldBits targetTagWidth r.tag.isLt, takeField_fieldBits 1 (targetStatusCode_lt r.status),
    takeField_fieldBits beatsWidth h, targetStatusOfBit_code, Fin.ofNat_val_eq_self]

theorem kind_code_lt (k : MessageKind) : k.code < 16 := by cases k <;> decide

/-- Every well-formed command of an initiator link is read back from its message. -/
theorem fromInitiator_readsBack {c : Instr} (hw : c.wellFormed = true) {i : Initiator} {m : FromInitiator} (hm : initiatorMessage c = some m)
    (hc : (∃ r, c = .request i r) ∨ c = .linkReset i ∨ ∃ k, c = .undefinedKindMessage (.initiator i) k) : m.command i = some c := by
  rcases hc with ⟨r, rfl⟩ | rfl | ⟨k, rfl⟩
  · cases hm
    have hr := readRequest_fields i r (of_decide_eq_true hw)
    rw [← List.append_nil (requestHeader ..)]
    simp only [requestHeader, List.append_assoc, FromInitiator.command, takeField_fieldBits kindWidth (kind_code_lt _)]
    exact hr
  · cases hm
    rfl
  · cases hm
    obtain ⟨hk, hd⟩ := Bool.and_eq_true_iff.mp hw
    rw [← List.append_nil (fieldBits ..)]
    exact fromInitiator_undefined (of_decide_eq_true hk) (by simpa using hd) [] []

/-- A message with one count field is read back as its count (R30, R37). -/
theorem takeField_count (n : Nat) (h : n < 128) : takeField countWidth (fieldBits countWidth n) = some (n, []) := by
  rw [← List.append_nil (fieldBits ..), takeField_fieldBits countWidth h]

/-- Every well-formed command of the target link is read back from its message. -/
theorem fromTarget_readsBack {c : Instr} (hw : c.wellFormed = true) {m : FromTarget} (hm : targetMessage c = some m) :
    m.command = some c := by
  cases c with
  | targetResponse r =>
    cases hm
    have hr := readResponse_fields r (of_decide_eq_true hw)
    rw [← List.append_nil (responseHeader ..)]
    simp only [responseHeader, List.append_assoc, FromTarget.command, takeField_fieldBits kindWidth (kind_code_lt _)]
    exact hr
  | targetCredit n =>
    cases hm
    have hn := takeField_count n (of_decide_eq_true hw)
    simp only [countMessage, FromTarget.command, takeField_fieldBits kindWidth (kind_code_lt _)]
    exact congrArg (Option.map fun f => Instr.targetCredit f.1) hn
  | resyncAck n =>
    cases hm
    have hn := takeField_count n (of_decide_eq_true hw)
    simp only [countMessage, FromTarget.command, takeField_fieldBits kindWidth (kind_code_lt _)]
    exact congrArg (Option.map fun f => Instr.resyncAck f.1) hn
  | resetNotice n =>
    cases hm
    have hn := takeField_count n (of_decide_eq_true hw)
    simp only [countMessage, FromTarget.command, takeField_fieldBits kindWidth (kind_code_lt _)]
    exact congrArg (Option.map fun f => Instr.resetNotice f.1) hn
  | undefinedKindMessage l k =>
    cases l with
    | initiator i => cases hm
    | target =>
      cases hm
      obtain ⟨hk, hd⟩ := Bool.and_eq_true_iff.mp hw
      rw [← List.append_nil (fieldBits ..)]
      exact fromTarget_undefined (of_decide_eq_true hk) (by simpa using hd) [] []
  | _ => cases hm

/-! ### Headers sent (R33, R36) -/

/-- The status codes stand in the order of R30. -/
theorem status_code_eq (st : Status) :
    [Status.okay, .errTarget, .errTimeout, .errDecode, .errDenied, .errRefused].idxOf st = st.code ∧ st.code < 8 := by
  cases st <;> decide

/-- A RESPONSE to an initiator, field by field (R33). -/
theorem response_fields (g : Tag) (st : Status) (data : List DataBeat) (hd : data.length ≤ 8) :
    (let h := (ToInitiator.response g st data).header
     h.length = 15 ∧ fieldAt h 0 4 = 3 ∧ fieldAt h 4 4 = g ∧ fieldAt h 11 4 = data.length ∧ fieldAt h 8 3 = st.code) := by
  have hheader : (ToInitiator.response g st data).header =
      fieldBits 4 3 ++ (fieldBits 4 g ++ (fieldBits 3 st.code ++ (fieldBits 4 data.length ++ []))) := by
    simp only [ToInitiator.header, responseHeader, kindWidth, initiatorTagWidth, beatsWidth, MessageKind.code, List.append_assoc, List.append_nil]
  simp only [hheader]
  refine ⟨by simp, fieldAt_zero 4 (by decide) _, ?_, ?_, ?_⟩
  · rw [fieldAt_add 4 3 _ 0, fieldAt_zero 4 g.isLt]
  · rw [fieldAt_add 4 3 _ 7, fieldAt_add 4 g _ 3, fieldAt_add 3 st.code _ 0, fieldAt_zero 4 (by omega)]
  · rw [fieldAt_add 4 3 _ 4, fieldAt_add 4 g _ 0, fieldAt_zero 3 (status_code_eq st).2]

/-- A CREDIT to an initiator, field by field (R33). -/
theorem credit_fields (n : Nat) (hn : n < 128) :
    (let h := (ToInitiator.credit n).header
     h.length = 11 ∧ fieldAt h 0 4 = 4 ∧ fieldAt h 4 7 = n) := by
  have hheader : (ToInitiator.credit n).header = fieldBits 4 4 ++ (fieldBits 7 n ++ []) := by
    simp only [ToInitiator.header, countMessage, kindWidth, countWidth, MessageKind.code, List.append_nil]
  simp only [hheader]
  refine ⟨by simp, fieldAt_zero 4 (by decide) _, ?_⟩
  rw [fieldAt_add 4 4 _ 0, fieldAt_zero 7 hn]

/-- A REQUEST to the target, field by field (R36). -/
theorem request_fields (x : EntryIdx) (op : Op) (beats : Nat) (a : Addr) (data : List WriteBeat) (hb : beats < 16) :
    (let h := (ToTarget.request x op beats a data).header
     h.length = 47 ∧ fieldAt h 0 4 = 1 ∧ fieldAt h 4 6 = x ∧ fieldAt h 10 1 = (if op = .write then 1 else 0) ∧ fieldAt h 11 4 = beats ∧
     fieldAt h 15 32 = a.toNat) := by
  have hheader : (ToTarget.request x op beats a data).header =
      fieldBits 4 1 ++ (fieldBits 6 x ++ (fieldBits 1 (opCode op) ++ (fieldBits 4 beats ++ (fieldBits 32 a.toNat ++ [])))) := by
    simp only [ToTarget.header, requestHeader, kindWidth, targetTagWidth, beatsWidth, addressWidth, MessageKind.code, List.append_assoc,
      List.append_nil]
  simp only [hheader]
  refine ⟨by simp, fieldAt_zero 4 (by decide) _, ?_, ?_, ?_, ?_⟩
  · rw [fieldAt_add 4 1 _ 0, fieldAt_zero 6 x.isLt]
  · rw [fieldAt_add 4 1 _ 6, fieldAt_add 6 x _ 0, fieldAt_zero 1 (opCode_lt op)]
    cases op <;> rfl
  · rw [fieldAt_add 4 1 _ 7, fieldAt_add 6 x _ 1, fieldAt_add 1 _ _ 0, fieldAt_zero 4 hb]
  · rw [fieldAt_add 4 1 _ 11, fieldAt_add 6 x _ 5, fieldAt_add 1 _ _ 4, fieldAt_add 4 beats _ 0, fieldAt_zero 32 a.isLt]

/-- Settles O12: a field taken off the front of a header is the number put there, so messages are read back field by field; and the
headers sent are their fields one after another. -/
theorem arrivingMessageReadsBack : Obligations.ArrivingMessageReadsBack := by
  refine ⟨fun c hw => ⟨fun i m hm hc => fromInitiator_readsBack hw hm hc, fun m hm => fromTarget_readsBack hw hm⟩, fun g st data hd => ?_,
    credit_fields, request_fields, by decide⟩
  rw [(status_code_eq st).1]
  exact response_fields g st data hd

/-! ### O11 -/

/-- A record that is handed is stored, or lost when the log is full (R177, R178). -/
theorem logFault_hands (s : State) (r : FaultReport) : s.HandsFault (s.logFault r) r := by
  rcases logFault_cases s r with ⟨hl, h⟩ | ⟨hl, h⟩
  · rw [State.HandsFault, if_pos hl, h, flag_raise, flag_raise]
    exact ⟨rfl, by simp, by simp; rfl⟩
  · rw [State.HandsFault, if_neg (Nat.not_lt.mpr hl), h, flag_raise, flag_raise]
    exact ⟨rfl, by simp, by simp⟩

/-- A command that acts out of reset alone is its act while RST_N is high (R195). -/
theorem next_of_high {s : State} (hr : s.rstN = true) (f : State → State) :
    (.next (s.outOfReset f) : Host.Outcome State Fault Refusal) = .next (f s) := by
  rw [State.outOfReset_high s f hr]

/-- Settles O11: the record is all that an undefined kind does, and its kind code is all that is read of it. -/
theorem undefinedKindIsDiscarded : Obligations.UndefinedKindIsDiscarded := by
  refine ⟨fun i k s hr => ⟨_, next_of_high hr fun t => t.takeUndefined (.initiator i), logFault_hands s _, logFault_frame s _⟩,
    fun k s hr => ⟨_, next_of_high hr fun t => t.takeUndefined .target, logFault_hands s _, logFault_frame s _⟩,
    fun k rest => ⟨fun i d h => fromInitiator_undefined k.isLt h rest d, fun d h => fromTarget_undefined k.isLt h rest d⟩⟩

end Sys2Proof.Machine
end

section
/-!
What a REQUEST does as it arrives (R41), and O5, O6 and O7.
-/

namespace Sys2Proof.Machine

/-! ### Frames of the ports' own events -/

/-- Pieces of a frame's list that stay, wherever they stand in it, may be left out. -/
theorem frame_narrow {s t : State} {l m : List Piece} (h : s.Frame t l) (hm : ∀ p ∈ l, p ∉ m → p.same s t = true) : s.Frame t m :=
  ⟨h.1, fun p hp => by
    by_cases hl : p ∈ l
    · exact hm p hl hp
    · exact h.2 p hl⟩

/-- A report without a latency changes what reports reach, and nothing else (R162). -/
theorem report_frame (s : State) (rs : List Report) : s.Frame (s.report rs) Piece.ofReport := by
  have h := report_onlyMonitor s rs none
  have hport := port_of_ports h.ports
  refine frame_narrow (report_onlyHeads s rs).frame fun p hp hn => ?_
  simp only [Piece.ofRecheck, List.mem_append, List.mem_cons, List.mem_map] at hp
  rcases hp with (((⟨i, -, rfl⟩ | ⟨i, -, rfl⟩) | ⟨i, -, rfl⟩) | ⟨i, -, rfl⟩) | rfl | hp
  · exact decide_eq_true (by rw [State.head, State.head, h.admission])
  · exact decide_eq_true (by rw [hport])
  · exact decide_eq_true (by rw [hport])
  · exact decide_eq_true (by rw [State.sentTo, State.sentTo, h.links])
  · exact decide_eq_true (h.flag .budgetWait (by simp))
  · exact absurd hp hn

theorem send_frame (s : State) (i : Initiator) (m : ToInitiator) : s.Frame (s.send i m) [.link i] := by
  refine ⟨rfl, fun p hp => ?_⟩
  cases p with
  | link j =>
    have hij : i ≠ j := by rintro rfl; exact hp (List.mem_singleton_self _)
    exact decide_eq_true (by rw [sentTo_send, if_neg hij])
  | histogramIndex => exact decide_eq_true ⟨rfl, rfl⟩
  | _ => exact decide_eq_true rfl

theorem setHead_frame (s : State) (i : Initiator) (h : HeadStatus) : s.Frame (s.setHead i h) [.head i] := by
  refine ⟨rfl, fun p hp => ?_⟩
  cases p with
  | head j =>
    have hij : i ≠ j := by rintro rfl; exact hp (List.mem_singleton_self _)
    exact decide_eq_true (by rw [head_setHead, if_neg hij])
  | histogramIndex => exact decide_eq_true ⟨rfl, rfl⟩
  | _ => exact decide_eq_true rfl

theorem raise_frame (s : State) (c : Cause) : s.Frame (s.raise c) [.flag c] := by
  refine ⟨rfl, fun p hp => ?_⟩
  cases p with
  | flag d =>
    have hdc : d ≠ c := by rintro rfl; exact hp (List.mem_singleton_self _)
    exact decide_eq_true (by rw [flag_raise, decide_eq_false hdc, Bool.or_false])
  | histogramIndex => exact decide_eq_true ⟨rfl, rfl⟩
  | _ => exact decide_eq_true rfl

/-- A change of a port that leaves its state changes its queue and its credits alone. -/
theorem modPort_frame (s : State) (i : Initiator) (f : Port → Port) (hf : (f (s.port i)).state = (s.port i).state) :
    s.Frame (s.modPort i f) [.queue i, .granted i] := by
  have hother : ∀ j, i ≠ j → (s.modPort i f).port j = s.port j := fun j hij => by rw [port_modPort, if_neg hij]
  refine ⟨rfl, fun p hp => ?_⟩
  simp only [List.mem_cons, not_or] at hp
  obtain ⟨hqueue, hgranted, -⟩ := hp
  cases p with
  | queue j => exact decide_eq_true (by rw [hother j (by rintro rfl; exact hqueue rfl)])
  | granted j => exact decide_eq_true (by rw [hother j (by rintro rfl; exact hgranted rfl)])
  | portState j =>
    by_cases hij : i = j
    · subst hij
      exact decide_eq_true (by rw [port_modPort, if_pos rfl, hf])
    · exact decide_eq_true (by rw [hother j hij])
  | histogramIndex => exact decide_eq_true ⟨rfl, rfl⟩
  | _ => exact decide_eq_true rfl

/-! ### The cases of an arrival (R41) -/

section
variable {s : State} {i : Initiator} (r : Request)

theorem arrive_of_disabled (h : (s.port i).state = .disabled) : s.arrive i r = s.logFault (requestFault .creditOverrun i r) := by
  simp only [State.arrive, h]

theorem arrive_of_fenced (h : (s.port i).state = .fenced) : s.arrive i r = s.refuse i r := by
  simp only [State.arrive, h]

theorem arrive_of_open (h : (s.port i).state = .active ∨ (s.port i).state = .draining) :
    s.arrive i r = if (s.port i).granted = 0 then s.logFault (requestFault .creditOverrun i r) else (s.takeGrant i).checkArrival i r := by
  rcases h with h | h <;> simp only [State.arrive, h] <;> rfl

theorem duplicateTag_takeGrant (g : Tag) : (s.takeGrant i).duplicateTag i g = s.duplicateTag i g := by
  have hqueue : ((s.takeGrant i).port i).queue = (s.port i).queue := by rw [port_takeGrant, if_pos rfl]
  rw [Bool.eq_iff_iff, duplicateTag_iff, duplicateTag_iff, hqueue]
  rfl

theorem state_takeGrant : ((s.takeGrant i).port i).state = (s.port i).state := by rw [port_takeGrant, if_pos rfl]

/-- Step 5: a duplicate tag (R42). -/
theorem checkArrival_of_duplicate (hd : s.duplicateTag i r.tag = true) :
    (s.takeGrant i).checkArrival i r = ((s.takeGrant i).returnCredit i).logFault (requestFault .dupTag i r) := by
  rw [State.checkArrival, duplicateTag_takeGrant, if_pos hd]

/-- Step 6: a malformed request (R43). -/
theorem checkArrival_of_malformed (hd : s.duplicateTag i r.tag = false) (hm : requestMalformed r = true) :
    (s.takeGrant i).checkArrival i r = ((s.takeGrant i).refuseWithCredit i r).logFault (requestFault .malformed i r) := by
  rw [State.checkArrival, duplicateTag_takeGrant, if_neg (by simp [hd]), if_pos hm]

/-- Steps 7 and 8: a DRAINING port refuses, an ACTIVE one queues. -/
theorem checkArrival_of_formed (hd : s.duplicateTag i r.tag = false) (hm : requestMalformed r = false) :
    (s.takeGrant i).checkArrival i r =
      if (s.port i).state = .draining then (s.takeGrant i).refuseWithCredit i r else (s.takeGrant i).appendRequest i r := by
  rw [State.checkArrival, duplicateTag_takeGrant, if_neg (by simp [hd]), if_neg (by simp [hm]), state_takeGrant]

end

/-- A request is malformed exactly as R43 says. -/
theorem requestMalformed_iff (r : Request) : requestMalformed r = true ↔
    r.address.toNat % 8 ≠ 0 ∨ r.beats = 0 ∨ 8 < r.beats ∨ 64 < r.address.toNat % 64 + 8 * r.beats ∨
      (r.op = .write ∧ r.data.length ≠ r.beats) ∨ (r.op = .read ∧ r.data ≠ []) := by
  cases hop : r.op <;> simp [requestMalformed, hop, or_assoc]

/-! ### Credits taken and returned -/

theorem eq_of_ports {s u : State} (hu : u = { s with ports := u.ports }) (h : ∀ j, u.port j = s.port j) : u = s := by
  rw [hu, vector_ext_fin h]

/-- The credit taken and returned is no change of the port (R39, R44). -/
theorem takeGrant_restored {s : State} {i : Initiator} (hg : (s.port i).granted ≠ 0) :
    ((s.takeGrant i).modPort i fun p => { p with granted := p.granted + 1 }) = s :=
  eq_of_ports rfl (port_of_creditReturned hg fun j => port_modPort _ i j _)

theorem returnCredit_takeGrant {s : State} {i : Initiator} (hg : (s.port i).granted ≠ 0) :
    (s.takeGrant i).returnCredit i = s.send i (.credit 1) := by
  rw [State.returnCredit, takeGrant_restored hg]

/-- An answer and the credit behind it (R39, R44). -/
def State.answerAndCredit (s : State) (i : Initiator) (r : Request) (st : Status) : State :=
  (s.send i (.response r.tag st [])).send i (.credit 1)

theorem sentTo_answerAndCredit (s : State) (i : Initiator) (r : Request) (st : Status) :
    (s.answerAndCredit i r st).sentTo i = s.sentTo i ++ [.response r.tag st [], .credit 1] := by
  rw [State.answerAndCredit, sentTo_send, if_pos rfl, sentTo_send, if_pos rfl, List.append_assoc]
  rfl

theorem answerAndCredit_frame (s : State) (i : Initiator) (r : Request) (st : Status) : s.Frame (s.answerAndCredit i r st) [.link i] :=
  frame_mono (frame_trans (send_frame s i _) (send_frame _ i _)) fun _ hp => (List.mem_append.mp hp).elim id id

/-- The answer to a request and its credit, sent before the credit returns, are sent of the port as it then stands. -/
theorem returnCredit_send_eq {s u : State} {i : Initiator} (h : (u.modPort i fun p => { p with granted := p.granted + 1 }) = s) (r : Request)
    (st : Status) : (u.send i (.response r.tag st [])).returnCredit i = s.answerAndCredit i r st := by
  rw [← h]
  rfl

theorem refuseWithCredit_takeGrant {s : State} {i : Initiator} (hg : (s.port i).granted ≠ 0) (r : Request) :
    (s.takeGrant i).refuseWithCredit i r = (s.answerAndCredit i r .errRefused).report [refusedReport i] := by
  rw [State.refuseWithCredit, returnCredit_send_eq (takeGrant_restored hg)]
  rfl

/-! ### Records and reports after answers -/

theorem report_counts (s : State) (rs : List Report) : s.Counts (s.report rs) rs := counts_of_tallies (report_tallies s rs)

/-- An event that leaves the log, the tick and the two flags hands what its second half hands. -/
theorem handsFault_of_onlyMonitor {s t u : State} {r : FaultReport} (h : OnlyMonitor s t) (hf : t.HandsFault u r) : s.HandsFault u r := by
  simpa only [State.HandsFault, h.faultLog, h.timebase, h.flag .fault (by simp), h.flag .faultLost (by simp)] using hf

/-- An answer with its credit and its REFUSED report (R44). -/
theorem refused_effect (s : State) (i : Initiator) (r : Request) (st : Status) (rs : List Report) :
    ((s.answerAndCredit i r st).report rs).sentTo i = s.sentTo i ++ [.response r.tag st [], .credit 1] ∧
      s.Counts ((s.answerAndCredit i r st).report rs) rs ∧ s.Frame ((s.answerAndCredit i r st).report rs) (.link i :: Piece.ofReport) := by
  refine ⟨?_, report_counts (s.answerAndCredit i r st) rs, frame_trans (answerAndCredit_frame s i r st) (report_frame _ rs)⟩
  rw [State.sentTo, (report_onlyMonitor _ rs none).links]
  exact sentTo_answerAndCredit s i r st

/-! ### O5, O6 -/

/-- Settles O5: the three ways in which an arrival ends in a record alone, or in its credit and a record. -/
theorem requestIsDiscarded : Obligations.RequestIsDiscarded := by
  intro i r s hr
  have hnext := next_of_high hr fun t => t.arrive i r
  constructor
  · intro h
    have harrive : s.arrive i r = s.logFault (requestFault .creditOverrun i r) := by
      rcases h with h | ⟨ho, hg⟩
      · exact arrive_of_disabled r h
      · rw [arrive_of_open r ho, if_pos hg]
    rw [harrive] at hnext
    exact ⟨_, hnext, logFault_hands s _, logFault_frame s _⟩
  · intro ho hg hd
    rw [arrive_of_open r ho, if_neg hg, checkArrival_of_duplicate r ((duplicateTag_iff s i r.tag).mpr hd), returnCredit_takeGrant hg] at hnext
    refine ⟨_, hnext, ?_, logFault_hands (s.send i (.credit 1)) _, frame_trans (send_frame s i (.credit 1)) (logFault_frame _ _)⟩
    rw [State.sentTo, logFault_links]
    exact (sentTo_send s i i _).trans (if_pos rfl)

/-- Settles O6: the three ways in which an arrival is answered ERR_REFUSED. -/
theorem requestRefusedOnArrival : Obligations.RequestRefusedOnArrival := by
  intro i r s hr
  have hnext := next_of_high hr fun t => t.arrive i r
  refine ⟨fun h => ?_, fun ho hg hd => ⟨fun hm => ?_, fun hdr hm => ?_⟩⟩
  · rw [arrive_of_fenced r h] at hnext
    refine ⟨_, hnext, ?_, report_counts (s.send i (.response r.tag .errRefused [])) _, frame_trans (send_frame s i _) (report_frame _ _)⟩
    rw [State.refuse, State.sentTo, (report_onlyMonitor _ _ none).links]
    exact (sentTo_send s i i _).trans (if_pos rfl)
  · rw [arrive_of_open r ho, if_neg hg, checkArrival_of_malformed r hd ((requestMalformed_iff r).mpr hm), refuseWithCredit_takeGrant hg] at hnext
    obtain ⟨hsent, hcounts, hframe⟩ := refused_effect s i r .errRefused [refusedReport i]
    have hmonitor := report_onlyMonitor (s.answerAndCredit i r .errRefused) [refusedReport i] none
    refine ⟨_, hnext, ?_, ?_, fun hf c => ?_, ?_⟩
    · rw [State.sentTo, logFault_links]
      exact hsent
    · have hfault := handsFault_of_onlyMonitor hmonitor (logFault_hands _ (requestFault .malformed i r))
      exact hfault
    · rw [State.counter, logFault_monitor]
      exact hcounts hf c
    · refine frame_mono (frame_trans hframe (logFault_frame _ _)) fun p hp => ?_
      simp only [List.mem_append, List.mem_cons] at hp ⊢
      tauto
  · rw [arrive_of_open r ho, if_neg hg, checkArrival_of_formed r hd hm, if_pos hdr, refuseWithCredit_takeGrant hg] at hnext
    exact ⟨_, hnext, refused_effect s i r .errRefused [refusedReport i]⟩

/-! ### O7 -/

section
variable {s : State} {i : Initiator} {r : Request} (hq : (s.port i).queue = [r])
include hq

theorem headArrives_of_pass (hv : s.verdict i r = .pass) : s.headArrives i = s.setHead i .eligible := by
  simp only [State.headArrives, hq, State.checkQueue, hv]

/-- A head that comes to wait for BUDGET reports it (R57). -/
theorem headArrives_of_wait {w : WaitReason} (hv : s.verdict i r = .wait w) :
    s.headArrives i = if w = .budget then (s.setHead i (.waiting w)).raise .budgetWait else s.setHead i (.waiting w) := by
  simp only [State.headArrives, hq, State.checkQueue, hv, ne_eq, reduceCtorEq, not_false_eq_true, and_true]

theorem headArrives_of_refuse {why : HeadRefusal} (hv : s.verdict i r = .refuse why) :
    s.headArrives i = (s.refuseHead i r [] why).setHead i .noHead := by
  simp only [State.headArrives, hq, State.checkQueue, hv]

end

/-- The state in which a request has taken its credit and joined the tail of its queue (R41 steps 4 and 8). -/
def State.queued (s : State) (i : Initiator) (r : Request) : State := (s.takeGrant i).modPort i fun p => { p with queue := p.queue ++ [r] }

theorem port_queued (s : State) (i j : Initiator) (r : Request) : (s.queued i r).port j =
    if i = j then { s.port j with granted := (s.port j).granted - 1, queue := (s.port j).queue ++ [r] } else s.port j := by
  rw [State.queued, port_modPort, port_takeGrant]
  split <;> rfl

theorem queued_frame (s : State) (i : Initiator) (r : Request) : s.Frame (s.queued i r) [.queue i, .granted i] :=
  frame_mono (frame_trans (modPort_frame s i _ rfl) (modPort_frame (s.takeGrant i) i _ rfl)) fun _ hp => (List.mem_append.mp hp).elim id id

theorem verdict_queued (s : State) (i : Initiator) (r : Request) : (s.queued i r).verdict i r = s.verdict i r :=
  verdict_congr rfl rfl rfl rfl rfl i r

theorem appendRequest_takeGrant (s : State) (i : Initiator) (r : Request) :
    (s.takeGrant i).appendRequest i r = if (s.port i).queue = [] then (s.queued i r).headArrives i else s.queued i r := by
  have hqueue : ((s.takeGrant i).port i).queue = (s.port i).queue := by rw [port_takeGrant, if_pos rfl]
  rw [State.appendRequest, hqueue]
  rfl

/-- A request refused as the head it has just become leaves its port as it was, with its answer and its credit sent (R61). -/
theorem refuseHead_queued {s : State} {i : Initiator} (hq : (s.port i).queue = []) (hg : (s.port i).granted ≠ 0) (r : Request) (why : HeadRefusal) :
    (s.queued i r).refuseHead i r [] why =
      (s.answerAndCredit i r why.status).report [{ event := .refused, initiator := i, qualifier := why.qualifier }] := by
  have hempty : ((s.queued i r).modPort i fun p => { p with queue := [] }) = s.takeGrant i := by
    refine eq_of_ports rfl fun j => ?_
    rw [port_modPort, port_queued, port_takeGrant]
    by_cases hij : i = j
    · subst hij
      simp only [if_true, hq]
    · simp only [if_neg hij]
  rw [State.refuseHead, hempty, returnCredit_send_eq (takeGrant_restored hg)]

/-- Settles O7: a request that passes the checks takes its credit and its place, and is checked at once where it is the head. -/
theorem requestIsQueued : Obligations.RequestIsQueued := by
  intro i r s hr ha hg hd hm
  have hnext := next_of_high hr fun t => t.arrive i r
  rw [arrive_of_open r (.inl ha), if_neg hg, checkArrival_of_formed r hd hm, if_neg (by simp [ha]), appendRequest_takeGrant] at hnext
  have hport : (s.queued i r).port i = { s.port i with granted := (s.port i).granted - 1, queue := (s.port i).queue ++ [r] } := by
    rw [port_queued, if_pos rfl]
  have hframe := queued_frame s i r
  refine ⟨fun hq => ?_, fun hq => ?_⟩
  · rw [if_neg hq] at hnext
    exact ⟨_, hnext, by rw [hport], by rw [hport], hframe⟩
  · rw [if_pos hq] at hnext
    have hqueue : ((s.queued i r).port i).queue = [r] := by rw [hport, hq]; rfl
    have hgranted : ((s.queued i r).port i).granted = (s.port i).granted - 1 := by rw [hport]
    refine ⟨fun hv => ?_, fun w _ hv => ?_, fun why _ hv => ?_⟩
    · rw [headArrives_of_pass hqueue (by rw [verdict_queued, hv])] at hnext
      exact ⟨_, hnext, hqueue, hgranted, by rw [head_setHead, if_pos rfl], frame_trans hframe (setHead_frame _ i _)⟩
    · have hwaits : (s.queued i r).Frame ((s.queued i r).setHead i (.waiting w)) [.head i] := setHead_frame _ i _
      have hhead : ((s.queued i r).setHead i (.waiting w)).head i = .waiting w := by rw [head_setHead, if_pos rfl]
      have hflag : ((s.queued i r).setHead i (.waiting w)).flag .budgetWait = s.flag .budgetWait := rfl
      rw [headArrives_of_wait hqueue (by rw [verdict_queued, hv])] at hnext
      by_cases hw : w = .budget
      · rw [if_pos hw] at hnext
        refine ⟨_, hnext, hqueue, hgranted, hhead, ?_, frame_trans (frame_trans hframe hwaits) (raise_frame _ _)⟩
        rw [flag_raise, hflag, decide_eq_true rfl, decide_eq_true hw]
      · rw [if_neg hw] at hnext
        refine ⟨_, hnext, hqueue, hgranted, hhead, ?_, frame_mono (frame_trans hframe hwaits) fun p hp => ?_⟩
        · rw [hflag, decide_eq_false hw, Bool.or_false]
        · simp only [List.mem_append, List.mem_cons] at hp ⊢
          tauto
    · rw [headArrives_of_refuse hqueue (by rw [verdict_queued, hv]), refuseHead_queued hq hg] at hnext
      obtain ⟨hsent, hcounts, hrefused⟩ := refused_effect s i r why.status [{ event := .refused, initiator := i, qualifier := why.qualifier }]
      refine ⟨_, hnext, hsent, by rw [head_setHead, if_pos rfl], hcounts, frame_mono (frame_trans hrefused (setHead_frame _ i _)) fun p hp => ?_⟩
      simp only [List.mem_append, List.mem_cons] at hp ⊢
      tauto

end Sys2Proof.Machine
end

section
/-!
When the head statuses are true (R53): what makes one port's status true, on what the checks depend, and how a re-check, a head arrival and
the notices of a claim leave every status true (R60).
-/

namespace Sys2Proof.Machine

/-! ### One port's head -/

/-- The head of port `i` is not refused, and its status is what the five checks find (R53). -/
def State.HeadTrue (s : State) (i : Initiator) : Prop :=
  s.refusedFront i (s.port i).queue = [] ∧ s.head i = s.statusOf i (s.port i).queue

/-- Port `i` has a head status exactly while it holds a request. -/
def State.HeadPresent (s : State) (i : Initiator) : Prop := s.head i = .noHead ↔ (s.port i).queue = []

theorem headsTrue_iff (s : State) : s.HeadsTrue ↔ ∀ i, s.HeadTrue i := by
  refine forall_congr' fun i => ?_
  have hreason : ∀ w : WaitReason, w ∈ [WaitReason.target, .halt, .budget, .quota] := fun w => by cases w <;> decide
  unfold State.HeadTrue
  cases (s.port i).queue with
  | nil => simp [State.refusedFront, State.statusOf]
  | cons r rest => cases hv : s.verdict i r <;> simp [State.refusedFront, State.statusOf, hv, hreason]

/-- What follows the refused requests of a queue begins with one that stays, if any (R57). -/
theorem refusedFront_drop (s : State) (i : Initiator) (q : List Request) : s.refusedFront i (q.drop (s.refusedFront i q).length) = [] := by
  induction q with
  | nil => rfl
  | cons r q ih =>
    cases hv : s.verdict i r with
    | refuse why => simpa [State.refusedFront, hv] using ih
    | wait w => simp [State.refusedFront, hv]
    | pass => simp [State.refusedFront, hv]

/-- A check leaves its port with a true status (R53). -/
theorem headTrue_of_afterCheck {s t : State} {i : Initiator} {v : PortView} (hv : ∀ i r, t.verdict i r = s.verdict i r)
    (h : t.view i = s.afterCheck i v) : t.HeadTrue i := by
  have hqueue : (t.port i).queue = v.queue.drop (s.refusedFront i v.queue).length := congrArg PortView.queue h
  have hhead : t.head i = s.statusOf i (v.queue.drop (s.refusedFront i v.queue).length) := congrArg PortView.status h
  rw [State.HeadTrue, hqueue, hhead, refusedFront_congr hv, statusOf_congr hv]
  exact ⟨refusedFront_drop s i v.queue, rfl⟩

theorem State.HeadTrue.present {s : State} {i : Initiator} (h : s.HeadTrue i) : s.HeadPresent i := by
  obtain ⟨hfront, hhead⟩ := h
  rw [State.HeadPresent, hhead]
  revert hfront
  cases (s.port i).queue with
  | nil => simp [State.statusOf]
  | cons r rest => cases hv : s.verdict i r <;> simp [State.refusedFront, State.statusOf, hv]

/-- A port without requests and without a head status is true whatever the checks find. -/
theorem headTrue_of_empty {s : State} {i : Initiator} (hq : (s.port i).queue = []) (hh : s.head i = .noHead) : s.HeadTrue i := by
  rw [State.HeadTrue, hq, hh]
  exact ⟨rfl, rfl⟩

/-! ### Heads left as they are, or taken away -/

/-- Every port keeps its requests and its head status, or loses them all. -/
def LeavesHeads (s t : State) : Prop :=
  ∀ i, ((t.port i).queue = (s.port i).queue ∧ t.head i = s.head i) ∨ ((t.port i).queue = [] ∧ t.head i = .noHead)

namespace LeavesHeads

theorem of_same {s t : State} (hp : t.ports = s.ports) (ha : t.admission.heads = s.admission.heads) : LeavesHeads s t := fun i =>
  .inl ⟨by rw [port_of_ports hp], by rw [State.head, ha]; rfl⟩

theorem trans {s t u : State} (h : LeavesHeads s t) (k : LeavesHeads t u) : LeavesHeads s u := fun i => by
  rcases k i with ⟨hq, hh⟩ | hempty
  · rw [hq, hh]
    exact h i
  · exact .inr hempty

/-- One port is closed, the others stay. -/
theorem of_closed {s t : State} {i : Initiator} (hq : (t.port i).queue = []) (hh : t.head i = .noHead)
    (hj : ∀ j, i ≠ j → t.port j = s.port j ∧ t.head j = s.head j) : LeavesHeads s t := fun j => by
  by_cases hij : i = j
  · exact .inr (hij ▸ ⟨hq, hh⟩)
  · obtain ⟨hport, hhead⟩ := hj j hij
    exact .inl ⟨by rw [hport], hhead⟩

theorem present {s t : State} (h : LeavesHeads s t) {i : Initiator} (hs : s.HeadPresent i) : t.HeadPresent i := by
  rcases h i with ⟨hq, hh⟩ | ⟨hq, hh⟩
  · rwa [State.HeadPresent, hq, hh]
  · simp [State.HeadPresent, hq, hh]

theorem headTrue {s t : State} (h : LeavesHeads s t) (hv : ∀ i r, t.verdict i r = s.verdict i r) {i : Initiator} (hs : s.HeadTrue i) :
    t.HeadTrue i := by
  rcases h i with ⟨hq, hh⟩ | ⟨hq, hh⟩
  · rwa [State.HeadTrue, hq, hh, refusedFront_congr hv, statusOf_congr hv]
  · exact headTrue_of_empty hq hh

end LeavesHeads

/-! ### What the quota rule reads of the tracker (R4, R58) -/

/-- The five checks read of the tracker how many entries each initiator has in use, and nothing else (R54, R58). -/
theorem verdict_of_inUse {s t : State} (hw : t.windows = s.windows) (ht : t.target.state = s.target.state)
    (hp : t.admission.profiles = s.admission.profiles) (hr : t.regulation.remaining = s.regulation.remaining)
    (hu : ∀ i, t.inUse i = s.inUse i) (i : Initiator) (r : Request) : t.verdict i r = s.verdict i r := by
  have hfree : t.freeCount = s.freeCount := by simp only [State.freeCount, funext hu]
  have hunfilled : t.unfilled = s.unfilled := funext fun j => by rw [State.unfilled, State.unfilled, profile_of_admission hp, hu]
  have hquota : t.quotaAllows i = s.quotaAllows i := by
    simp only [State.quotaAllows, State.othersUnfilled, hunfilled, profile_of_admission hp, hu, hfree]
    congr!
  unfold State.verdict
  rw [lookup_congr hw, hw, ht, profile_of_admission hp, hquota]
  simp only [State.remaining, hr]
  congr!

/-- An entry that stays its initiator's is in use as before (R4). -/
theorem inUse_setEntry {s : State} {x : EntryIdx} {e f : Entry} (hx : s.entry x = some e) (hf : f.initiator = e.initiator) (i : Initiator) :
    (s.setEntry x (some f)).inUse i = s.inUse i := by
  unfold State.inUse State.countEntries
  refine List.countP_congr fun y _ => ?_
  rw [entry_setEntry]
  by_cases hxy : x = y
  · rw [if_pos hxy, ← hxy, hx, Option.any_some, Option.any_some, hf]
  · rw [if_neg hxy]

/-- The initiators' entries among some indices are the entries that are not FREE among them. -/
theorem sum_countP_initiator (s : State) (l : List EntryIdx) :
    (initiators.map fun i => l.countP fun x => (s.entry x).any fun e => e.initiator == i).sum = l.countP fun x => (s.entry x).isSome := by
  induction l with
  | nil => rfl
  | cons x l ih =>
    simp only [List.countP_cons, List.sum_map_add, ih]
    congr 1
    cases hx : s.entry x with
    | none => rfl
    | some e =>
      have hone : ∀ j : Initiator, (initiators.map fun i => if (j == i) = true then 1 else 0).sum = 1 := by decide
      exact hone e.initiator

/-- The free count is what the entries in use leave of the 64 (R4). -/
theorem freeCount_add_inUse (s : State) : s.freeCount + (initiators.map s.inUse).sum = 64 := by
  have hsum := sum_countP_initiator s entryIndices
  have hle : entryIndices.countP (fun x => (s.entry x).isSome) ≤ 64 := List.countP_le_length.trans (by simp [entryIndices])
  exact Nat.sub_add_cancel (hsum.trans_le hle)

/-- Where no initiator has more entries and as many are free, each has as many as before. -/
theorem inUse_eq_of_freeCount {s t : State} (hle : ∀ i, t.inUse i ≤ s.inUse i) (hf : t.freeCount = s.freeCount) (i : Initiator) :
    t.inUse i = s.inUse i := by
  have hsum : (initiators.map t.inUse).sum = (initiators.map s.inUse).sum := by
    have ht := freeCount_add_inUse t
    have hs := freeCount_add_inUse s
    omega
  by_contra hne
  exact absurd hsum (List.sum_lt_sum _ _ (fun j _ => hle j) ⟨i, mem_initiators i, lt_of_le_of_ne (hle i) hne⟩).ne

/-! ### Events that leave the statuses true -/

/-- The event leaves the head statuses true. -/
structure KeepsHeads (s t : State) : Prop where
  keeps : s.HeadsTrue → t.HeadsTrue

namespace KeepsHeads

theorem refl (s : State) : KeepsHeads s s := ⟨id⟩

theorem trans {s t u : State} (h : KeepsHeads s t) (k : KeepsHeads t u) : KeepsHeads s u := ⟨k.keeps ∘ h.keeps⟩

theorem foldl {α : Type} (f : State → α → State) (hf : ∀ s a, KeepsHeads s (f s a)) (l : List α) (s : State) : KeepsHeads s (l.foldl f s) := by
  induction l generalizing s with
  | nil => exact refl s
  | cons a l ih => exact (hf s a).trans (ih _)

theorem ite {p : Prop} [Decidable p] {s a b : State} (ha : KeepsHeads s a) (hb : KeepsHeads s b) : KeepsHeads s (if p then a else b) := by
  split
  · exact ha
  · exact hb

/-- The heads stay and the checks find the same. -/
theorem of_verdict {s t : State} (h : LeavesHeads s t) (hv : ∀ i r, t.verdict i r = s.verdict i r) : KeepsHeads s t :=
  ⟨fun hs => (headsTrue_iff t).mpr fun i => h.headTrue hv ((headsTrue_iff s).mp hs i)⟩

/-- Nothing that a head or the checks read changes. -/
theorem of_same {s t : State} (hp : t.ports = s.ports) (ha : t.admission = s.admission) (hw : t.windows = s.windows)
    (ht : t.target.state = s.target.state) (hr : t.regulation.remaining = s.regulation.remaining) (htr : t.tracker = s.tracker) :
    KeepsHeads s t :=
  of_verdict (.of_same hp (by rw [ha])) (verdict_congr hw ht (by rw [ha]) hr htr)

theorem of_onlyMonitor {s t : State} (h : OnlyMonitor s t) : KeepsHeads s t :=
  of_same h.ports h.admission h.windows (by rw [h.target]) (by rw [h.regulation]) h.tracker

/-- A re-check makes every present head's status true, whatever the checks found before (R60). -/
theorem of_recheck {s u : State} (h : ∀ i, s.HeadTrue i → u.HeadPresent i) : KeepsHeads s u.recheck := by
  refine ⟨fun hs => (headsTrue_iff _).mpr fun i => ?_⟩
  have hv := (recheck_onlyHeads u).verdict
  have hview := (recheck_checksPorts u).view i
  split at hview
  · exact headTrue_of_afterCheck hv hview
  · rename_i hn
    have hhead : u.head i = .noHead := not_not.mp fun hc => hn ⟨mem_initiators i, hc⟩
    have hqueue := (h i ((headsTrue_iff s).mp hs i)).mp hhead
    exact headTrue_of_empty ((congrArg PortView.queue hview).trans hqueue) ((congrArg PortView.status hview).trans hhead)

/-- An event that leaves the heads, followed by a re-check. -/
theorem recheck {s u : State} (h : LeavesHeads s u) : KeepsHeads s u.recheck := of_recheck fun _ hi => h.present hi.present

end KeepsHeads

/-- A head arrival makes its own port's status true and leaves the others (R53). -/
theorem headTrue_headArrives {s : State} {i j : Initiator} (hj : i ≠ j → s.HeadTrue j) : (s.headArrives i).HeadTrue j := by
  have hv := (headArrives_onlyHeads s i).verdict
  obtain ⟨hself, hother, -, -⟩ := checkQueue_checksPort i _ .noHead s rfl
  by_cases hij : i = j
  · exact hij ▸ headTrue_of_afterCheck hv hself
  · have hsame := hother j hij
    rw [State.HeadTrue, show ((s.headArrives i).port j).queue = (s.port j).queue from congrArg PortView.queue hsame,
      show (s.headArrives i).head j = s.head j from congrArg PortView.status hsame, refusedFront_congr hv, statusOf_congr hv]
    exact hj hij

theorem headPresent_headArrives {s : State} {i j : Initiator} (hj : i ≠ j → s.HeadPresent j) : (s.headArrives i).HeadPresent j := by
  by_cases hij : i = j
  · exact (headTrue_headArrives fun hne => absurd hij hne).present
  · have hsame := (checkQueue_checksPort i _ .noHead s rfl).other j hij
    rw [State.HeadPresent, show ((s.headArrives i).port j).queue = (s.port j).queue from congrArg PortView.queue hsame,
      show (s.headArrives i).head j = s.head j from congrArg PortView.status hsame]
    exact hj hij

/-! ### A claim and its notices (R17, R60) -/

/-- The detached-count rule changes the target port and the interrupt flags alone (R116). -/
theorem suspectIfReached_only (u : State) : ∃ p f, u.suspectIfReached = { u with target := p, interrupts := f } := by
  rcases suspectIfReached_cases u with ⟨-, -, e⟩ | ⟨-, e⟩
  · exact ⟨_, _, e⟩
  · exact ⟨u.target, u.interrupts, e⟩

/-- Is the entry one of initiator `i`? -/
def Entry.isOf (i : Initiator) (e : Entry) : Bool := e.initiator == i

/-- The event takes no entry, and leaves the heads and, but for the entries in use, what the checks read. -/
structure TakesNoEntry (s u : State) : Prop where
  heads : LeavesHeads s u
  windows : u.windows = s.windows
  profiles : u.admission.profiles = s.admission.profiles
  remaining : u.regulation.remaining = s.regulation.remaining
  state : u.target.state = s.target.state
  noneNew : ∀ i, NoneNew (Entry.isOf i) s u

namespace TakesNoEntry

theorem trans {s t u : State} (h : TakesNoEntry s t) (k : TakesNoEntry t u) : TakesNoEntry s u where
  heads := h.heads.trans k.heads
  windows := k.windows.trans h.windows
  profiles := k.profiles.trans h.profiles
  remaining := k.remaining.trans h.remaining
  state := k.state.trans h.state
  noneNew i := (h.noneNew i).trans (k.noneNew i)

theorem of_leavesHeads {s t : State} (hl : LeavesHeads s t) (hw : t.windows = s.windows) (hp : t.admission.profiles = s.admission.profiles)
    (hr : t.regulation.remaining = s.regulation.remaining) (ht : t.target.state = s.target.state) (htr : t.tracker = s.tracker) :
    TakesNoEntry s t := ⟨hl, hw, hp, hr, ht, fun _ => .of_tracker htr _⟩

theorem of_onlyClaims {s t : State} (h : OnlyClaims s t) (hn : ∀ i, NoneNew (Entry.isOf i) s t) : TakesNoEntry s t where
  heads := .of_same h.ports (by rw [h.admission])
  windows := h.windows
  profiles := by rw [h.admission]
  remaining := by rw [h.regulation]
  state := h.targetState
  noneNew := hn

/-- The notices of a claim leave the statuses true: either the entries in use are as before, or the heads are re-checked (R60). -/
theorem keepsHeads_notices {s u : State} (h : TakesNoEntry s u) : KeepsHeads s (State.notices s u) := by
  have hcount : ∃ p f, (if u.detachedCount ≠ s.detachedCount then u.suspectIfReached else u) = { u with target := p, interrupts := f } := by
    split
    · exact suspectIfReached_only u
    · exact ⟨u.target, u.interrupts, rfl⟩
  obtain ⟨p, f, hw⟩ := hcount
  have hheads : LeavesHeads s { u with target := p, interrupts := f } := h.heads
  unfold State.notices
  simp only [hw]
  split
  · exact .recheck hheads
  · rename_i hn
    obtain ⟨hfree, hstate⟩ := not_or.mp hn
    have hle : ∀ i, State.inUse { u with target := p, interrupts := f } i ≤ s.inUse i := fun i => (h.noneNew i).countEntries_le
    exact .of_verdict hheads
      (verdict_of_inUse h.windows (not_not.mp hstate) h.profiles h.remaining (inUse_eq_of_freeCount hle (not_not.mp hfree)))

end TakesNoEntry

theorem isOf_of_keptAs (i : Initiator) {e f : Entry} (h : e.KeptAs f) (hf : f.isOf i = true) : e.isOf i = true := by
  rwa [Entry.isOf, ← (carriedBy_iff.mp h.1).1]

/-- Freeing takes no entry (R9). -/
theorem freeEntry_takesNoEntry (s : State) (x : EntryIdx) : TakesNoEntry s (s.freeEntry x) :=
  .of_onlyClaims (freeEntry_onlyClaims s x) fun i => noneNew_freeEntry (fun _ _ => isOf_of_keptAs i) s x

/-- A claim takes no entry (R17). -/
theorem claim_takesNoEntry {sel : Entry → Bool} (hsel : SteadySelection sel) (a : Option Status) (c : DetachCause) (s : State) :
    TakesNoEntry s (s.claim (fun _ e => sel e) a c).1 :=
  .of_onlyClaims (claim_onlyClaims ..) fun i x g hg hi => by
    obtain ⟨e, he, hini, -⟩ := not_live_of_settledBy (claim_settledBy hsel a c s x) hg
    exact ⟨e, he, by rwa [Entry.isOf, ← hini]⟩

end Sys2Proof.Machine
end

section
/-!
Every command and every step leaves the head statuses true (R53, R60, R63), and O57.
-/

namespace Sys2Proof.Machine

/-! ### The target port (chapter 6) -/

theorem report_keepsHeads (s : State) (rs : List Report) (l : Option (Initiator × Tick)) : KeepsHeads s (s.report rs l) :=
  .of_onlyMonitor (report_onlyMonitor s rs l)

theorem logFault_keepsHeads (s : State) (r : FaultReport) : KeepsHeads s (s.logFault r) :=
  .of_same (logFault_ports ..) (logFault_admission ..) (logFault_windows ..) (by rw [logFault_target]) (by rw [logFault_regulation])
    (logFault_tracker ..)

theorem complete_keepsHeads (s : State) (code : Word) (st : CommandStatus) : KeepsHeads s (s.complete code st) := by
  obtain ⟨f, h⟩ := complete_only s code st
  rw [h]
  exact .of_same rfl rfl rfl rfl rfl rfl

theorem answer_takesNoEntry (s : State) (e : Entry) (st : Status) (d : List DataBeat) : TakesNoEntry s (s.answer e st d) :=
  .of_onlyClaims (answer_onlyClaims ..) fun _ => .of_tracker (answer_tracker ..) _

theorem completion_keepsHeads (s : State) (r : Response) (e : Entry) : KeepsHeads s (s.completion r e) := by
  have hclaim : TakesNoEntry s ((s.answer e (responseAnswer r e) (responseData r e)).freeEntry r.tag) :=
    (answer_takesNoEntry ..).trans (freeEntry_takesNoEntry ..)
  have hreport := hclaim.keepsHeads_notices.trans (report_keepsHeads _
    [{ event := .completed, initiator := e.initiator, qualifier := completedQualifier (responseAnswer r e) }]
    (some (e.initiator, s.timebase.count - e.admissionTick)))
  exact .ite hreport (hreport.trans (logFault_keepsHeads _ _))

theorem lateResponse_keepsHeads (s : State) (x : EntryIdx) (e : Entry) (c : DetachCause) : KeepsHeads s (s.lateResponse x e c) :=
  ((freeEntry_takesNoEntry s x).keepsHeads_notices.trans (logFault_keepsHeads _ _)).trans (report_keepsHeads _ _ none)

theorem takeResponse_keepsHeads (s : State) (r : Response) : KeepsHeads s (s.takeResponse r) := by
  unfold State.takeResponse
  split
  · exact .refl s
  · split
    · exact logFault_keepsHeads s _
    · split
      · exact completion_keepsHeads s r _
      · exact lateResponse_keepsHeads s r.tag _ _
      · exact logFault_keepsHeads s _
      · exact logFault_keepsHeads s _

/-- A credit count is set in the target port, with at most a record (R37). -/
theorem setCredits_only (s : State) (n : Nat) : ∃ p l f, s.setCredits n = { s with
    target := { s.target with credits := p }, faultLog := l, interrupts := { s.interrupts with flags := f } } := by
  unfold State.setCredits
  simp only
  split
  · obtain ⟨l, f, h⟩ := logFault_only { s with target := { s.target with credits := min Config.targetTags n } } (targetFault .targetCreditOverflow)
    exact ⟨_, l, f, h⟩
  · exact ⟨_, s.faultLog, s.interrupts.flags, rfl⟩

theorem setCredits_keepsHeads (s : State) (n : Nat) : KeepsHeads s (s.setCredits n) := by
  obtain ⟨p, l, f, h⟩ := setCredits_only s n
  rw [h]
  exact .of_same rfl rfl rfl rfl rfl rfl

theorem takeCredit_keepsHeads (s : State) (n : Nat) : KeepsHeads s (s.takeCredit n) := by
  unfold State.takeCredit
  split
  · exact setCredits_keepsHeads s _
  · exact setCredits_keepsHeads s _
  · exact .refl s
  · exact .refl s

theorem OnlyClaims.leavesHeads {s t : State} (h : OnlyClaims s t) : LeavesHeads s t := .of_same h.ports (by rw [h.admission])

/-- A target brought ONLINE re-checks the heads (R111, R115). -/
theorem bringOnline_keepsHeads {s u : State} (h : OnlyClaims s u) (n : Nat) : KeepsHeads s (u.bringOnline n) := by
  obtain ⟨p, l, f, hset⟩ := setCredits_only u n
  unfold State.bringOnline
  rw [hset]
  exact .recheck h.leavesHeads

theorem takeAck_keepsHeads (s : State) (n : Nat) : KeepsHeads s (s.takeAck n) := by
  unfold State.takeAck
  split
  · exact bringOnline_keepsHeads (acknowledgeClaim_onlyClaims s) n
  all_goals exact logFault_keepsHeads s _

theorem takeResetNotice_keepsHeads (s : State) (n : Nat) : KeepsHeads s (s.takeResetNotice n) := by
  unfold State.takeResetNotice
  split
  · exact bringOnline_keepsHeads (acknowledgeClaim_onlyClaims s) n
  · exact logFault_keepsHeads s _
  · exact bringOnline_keepsHeads (noticeClaim_onlyClaims s) n
  · exact bringOnline_keepsHeads (noticeClaim_onlyClaims s) n

theorem enterOffline_keepsHeads (s : State) : KeepsHeads s s.enterOffline := by
  rw [enterOffline_eq]
  have hclaim := (offlineClaim_onlyClaims s).leavesHeads
  generalize s.offlineClaim = u at hclaim
  exact .recheck hclaim

theorem startResync_keepsHeads (s : State) : KeepsHeads s s.startResync := by
  rw [startResync_eq]
  have hclaim := (resyncClaim_onlyClaims s).leavesHeads
  generalize s.resyncClaim = u at hclaim
  exact .recheck hclaim

theorem resyncWaitExpiry_keepsHeads (s : State) : KeepsHeads s s.resyncWaitExpiry :=
  .ite ((logFault_keepsHeads s _).trans (enterOffline_keepsHeads _)) (.refl s)

/-- A new detach limit re-checks the heads where it changes the target state (R114). -/
theorem writeDetachLimit_keepsHeads (s : State) (v : Word) : KeepsHeads s (s.writeDetachLimit v) := by
  obtain ⟨p, f, h⟩ := suspectIfReached_only { s with target := { s.target with detachLimit := max 1 (min 64 v.toNat) } }
  unfold State.writeDetachLimit
  simp only [h]
  split
  · exact .recheck (.of_same rfl rfl)
  · rename_i hstate
    exact .of_same rfl rfl rfl (not_not.mp hstate) rfl rfl

theorem commandResync_keepsHeads (s : State) : KeepsHeads s s.commandResync :=
  .ite (complete_keepsHeads ..) ((startResync_keepsHeads s).trans (complete_keepsHeads ..))

theorem commandOffline_keepsHeads (s : State) : KeepsHeads s s.commandOffline :=
  .ite (complete_keepsHeads ..) ((enterOffline_keepsHeads s).trans (complete_keepsHeads ..))

/-! ### Admission and issue (R62 to R64, R99) -/

/-- Admitting a head leaves every head status, and the queues of the other ports. -/
theorem admitHead_leaves (s : State) (i : Initiator) (r : Request) (rest : List Request) (w : WindowIdx) (x : EntryIdx) (j : Initiator) :
    (s.admitHead i r rest w x).head j = s.head j ∧ (i ≠ j → (s.admitHead i r rest w x).port j = s.port j) := by
  have hclaim := allocate_onlyClaims ((s.movePointer i).charge i r.beats) x i r w
  have hports : (((s.movePointer i).charge i r.beats).allocate x i r w).ports = s.ports := by
    rw [hclaim.ports, charge_ports, movePointer_ports]
  have hheads : (((s.movePointer i).charge i r.beats).allocate x i r w).admission.heads = s.admission.heads := by
    rw [hclaim.admission]
    unfold State.charge State.movePointer
    split <;> split <;> rfl
  unfold State.admitHead
  generalize ((s.movePointer i).charge i r.beats).allocate x i r w = t at hports hheads
  have hreport := report_onlyMonitor ((t.modPort i fun p => { p with queue := rest }).returnCredit i)
    (admitReports i r (s.predecessorsOf r w ≠ [])) none
  refine ⟨?_, fun hij => ?_⟩
  · rw [State.head, hreport.admission]
    exact congrArg (·[j]) hheads
  · rw [port_of_ports hreport.ports, port_returnCredit, if_neg hij, port_modPort, if_neg hij, port_of_ports hports]

theorem grant_keepsHeads (s : State) : KeepsHeads s s.grant := by
  unfold State.grant
  split
  · exact .refl s
  · rename_i i _
    split
    · exact .refl s
    · rename_i r rest _
      split
      · rename_i w x _ _
        refine .of_recheck fun j hj => headPresent_headArrives fun hij => ?_
        obtain ⟨hhead, hport⟩ := admitHead_leaves s i r rest w x j
        rw [State.HeadPresent, hhead, hport hij]
        exact hj.present
      · exact .refl s

theorem sendTarget_keepsHeads (s : State) (m : ToTarget) : KeepsHeads s (s.sendTarget m) := .of_same rfl rfl rfl rfl rfl rfl

/-- An issue leaves the entry in use (R12). -/
theorem issue_keepsHeads (s : State) : KeepsHeads s s.issue := by
  unfold State.issue
  split
  · split
    · exact .refl s
    · rename_i c x _
      split
      · exact .refl s
      · rename_i e he
        have htaken : KeepsHeads s { s with target := s.target.afterIssue c } := .of_same rfl rfl rfl (by cases c <;> rfl) rfl rfl
        have hissued : KeepsHeads { s with target := s.target.afterIssue c }
            (State.setEntry { s with target := s.target.afterIssue c } x (some { e with phase := .issued, writeData := [] })) :=
          .of_verdict (.of_same rfl rfl) (verdict_of_inUse rfl rfl rfl rfl
            (inUse_setEntry (s := { s with target := s.target.afterIssue c }) (e := e) he rfl))
        exact ((htaken.trans hissued).trans (sendTarget_keepsHeads _ _)).trans (report_keepsHeads _ _ none)
  · exact .refl s

/-! ### The timers and the monitor's tick (chapters 5 and 7) -/

theorem expire_keepsHeads (s : State) : KeepsHeads s s.expire := by
  have hclaim : TakesNoEntry s s.expiryClaim.1 := by
    rw [expiryClaim_eq]
    exact claim_takesNoEntry (expiring_steady s) (some .errTimeout) .timeout s
  exact hclaim.keepsHeads_notices.trans
    (.foldl _ (fun t x => (logFault_keepsHeads t _).trans (report_keepsHeads _ _ none)) _ _)

/-- A period expiry re-checks the heads where a METERED initiator is refilled, and refills no other (R87). -/
theorem periodExpiry_keepsHeads (s : State) : KeepsHeads s s.periodExpiry := by
  unfold State.periodExpiry
  simp only
  split
  · split
    · exact .recheck (.of_same rfl rfl)
    · rename_i hnone
      refine .of_same rfl rfl rfl rfl (vector_ext_fin fun i => ?_) rfl
      have hfree : (s.profile i).mode ≠ .metered := fun hm => hnone (List.any_eq_true.mpr ⟨i, mem_initiators i, decide_eq_true hm⟩)
      rw [ofFn_get, refilled, if_neg hfree]
      rfl
  · exact .refl s

theorem offerSample_keepsHeads (s : State) : KeepsHeads s s.offerSample := by
  obtain ⟨b, h⟩ := offerSample_onlyMonitor s
  exact KeepsHeads.trans (t := { s with sampleOwed := b }) (.of_same rfl rfl rfl rfl rfl rfl) (.of_onlyMonitor h)

theorem takeExpiry_keepsHeads (s : State) : KeepsHeads s s.takeExpiry := (expire_keepsHeads s).trans (offerSample_keepsHeads _)

theorem takePeriodExpiry_keepsHeads (s : State) : KeepsHeads s s.takePeriodExpiry :=
  (periodExpiry_keepsHeads s).trans (offerSample_keepsHeads _)

theorem takeResyncWaitExpiry_keepsHeads (s : State) : KeepsHeads s s.takeResyncWaitExpiry :=
  (resyncWaitExpiry_keepsHeads s).trans (offerSample_keepsHeads _)

theorem countTick_keepsHeads (s : State) : KeepsHeads s s.countTick := by
  unfold State.countTick
  refine KeepsHeads.trans ?_ (offerSample_keepsHeads _)
  exact .of_same rfl rfl rfl rfl rfl rfl

theorem tick_keepsHeads (s : State) : KeepsHeads s s.tick :=
  (((takeExpiry_keepsHeads s).trans (takePeriodExpiry_keepsHeads _)).trans (takeResyncWaitExpiry_keepsHeads _)).trans (countTick_keepsHeads _)

theorem countRefclk_keepsHeads (s : State) : KeepsHeads s s.countRefclk := .ite (.of_same rfl rfl rfl rfl rfl rfl) (tick_keepsHeads s)

/-! ### The initiator ports (chapters 2 and 8) -/

/-- An event that leaves every queue and every head status, as a refusal does. -/
theorem keepsHeads_of_queues {s t : State} (h : OnlyHeads s t) (hq : ∀ i, (t.port i).queue = (s.port i).queue) (hh : ∀ i, t.head i = s.head i) :
    KeepsHeads s t := .of_verdict (fun i => .inl ⟨hq i, hh i⟩) h.verdict

theorem refuse_onlyHeads (s : State) (i : Initiator) (r : Request) : OnlyHeads s (s.refuse i r) :=
  (send_onlyHeads s i _).trans (report_onlyHeads _ _)

theorem refuseWithCredit_onlyHeads (s : State) (i : Initiator) (r : Request) : OnlyHeads s (s.refuseWithCredit i r) :=
  ((send_onlyHeads s i _).trans (returnCredit_onlyHeads _ i)).trans (report_onlyHeads _ _)

theorem refuse_head (s : State) (i j : Initiator) (r : Request) : (s.refuse i r).head j = s.head j := by
  rw [State.refuse, State.head, (report_onlyMonitor _ _ none).admission]
  rfl

theorem refuseWithCredit_head (s : State) (i j : Initiator) (r : Request) : (s.refuseWithCredit i r).head j = s.head j := by
  rw [State.refuseWithCredit, State.head, (report_onlyMonitor _ _ none).admission]
  rfl

theorem refuse_keepsHeads (s : State) (i : Initiator) (r : Request) : KeepsHeads s (s.refuse i r) :=
  keepsHeads_of_queues (refuse_onlyHeads s i r) (fun j => by rw [refuse_port]) fun j => refuse_head s i j r

theorem refuseWithCredit_keepsHeads (s : State) (i : Initiator) (r : Request) : KeepsHeads s (s.refuseWithCredit i r) :=
  keepsHeads_of_queues (refuseWithCredit_onlyHeads s i r) (fun j => refuseWithCredit_queue s i j r) fun j => refuseWithCredit_head s i j r

/-- A change of a port that leaves its queue. -/
theorem modPort_keepsHeads (s : State) (i : Initiator) (f : Port → Port) (hf : (f (s.port i)).queue = (s.port i).queue) :
    KeepsHeads s (s.modPort i f) := by
  refine .of_verdict (fun j => .inl ⟨?_, rfl⟩) (verdict_congr rfl rfl rfl rfl rfl)
  rw [port_modPort]
  by_cases hij : i = j
  · subst hij
    rw [if_pos rfl, hf]
  · rw [if_neg hij]

theorem returnCredit_keepsHeads (s : State) (i : Initiator) : KeepsHeads s (s.returnCredit i) :=
  (modPort_keepsHeads s i (fun p => { p with granted := p.granted + 1 }) rfl).trans (.of_same rfl rfl rfl rfl rfl rfl)

/-- A request joins a queue behind a head, which stays, or arrives as head and is checked (R41 step 8, R53). -/
theorem appendRequest_keepsHeads (s : State) (i : Initiator) (r : Request) : KeepsHeads s (s.appendRequest i r) := by
  refine ⟨fun hs => ?_⟩
  have hv : ∀ j q, (s.modPort i fun p => { p with queue := p.queue ++ [r] }).verdict j q = s.verdict j q := verdict_congr rfl rfl rfl rfl rfl
  have htrue := (headsTrue_iff s).mp hs
  have hother : ∀ j, i ≠ j → (s.modPort i fun p => { p with queue := p.queue ++ [r] }).HeadTrue j := fun j hij => by
    rw [State.HeadTrue, port_modPort, if_neg hij, refusedFront_congr hv, statusOf_congr hv]
    exact htrue j
  rw [headsTrue_iff]
  unfold State.appendRequest
  simp only
  split
  · exact fun j => headTrue_headArrives (hother j)
  · rename_i hq
    obtain ⟨q, rest, hq⟩ := List.exists_cons_of_ne_nil hq
    intro j
    by_cases hij : i = j
    · subst hij
      have hi := htrue i
      rw [State.HeadTrue, hq] at hi
      rw [State.HeadTrue, port_modPort, if_pos rfl, refusedFront_congr hv, statusOf_congr hv, hq]
      cases hvq : s.verdict i q <;> simp_all [State.refusedFront, State.statusOf]
    · exact hother j hij

theorem checkArrival_keepsHeads (s : State) (i : Initiator) (r : Request) : KeepsHeads s (s.checkArrival i r) := by
  unfold State.checkArrival
  refine .ite ((returnCredit_keepsHeads s i).trans (logFault_keepsHeads _ _)) ?_
  refine .ite ((refuseWithCredit_keepsHeads s i r).trans (logFault_keepsHeads _ _)) ?_
  exact .ite (refuseWithCredit_keepsHeads s i r) (appendRequest_keepsHeads s i r)

theorem arrive_keepsHeads (s : State) (i : Initiator) (r : Request) : KeepsHeads s (s.arrive i r) := by
  unfold State.arrive
  split
  · exact logFault_keepsHeads s _
  · exact refuse_keepsHeads s i r
  · exact .ite (logFault_keepsHeads s _) ((modPort_keepsHeads s i (fun p => { p with granted := p.granted - 1 }) rfl).trans
      (checkArrival_keepsHeads _ i r))

theorem takeZeroNotice_keepsHeads (s : State) (i : Initiator) : KeepsHeads s (s.takeZeroNotice i) := by
  have hrevoke : KeepsHeads s (s.send i .revoke) := .of_same rfl rfl rfl rfl rfl rfl
  have hfenced := hrevoke.trans (modPort_keepsHeads _ i (fun p => { p with state := .fenced, granted := 0 }) rfl)
  exact .ite (hfenced.trans (.of_same rfl rfl rfl rfl rfl rfl)) (.refl s)

theorem enablePort_keepsHeads (s : State) (i : Initiator) : KeepsHeads s (s.enablePort i).1 := by
  have hcredit : KeepsHeads s (s.send i (.credit 8)) := .of_same rfl rfl rfl rfl rfl rfl
  have hopen := hcredit.trans (modPort_keepsHeads _ i (fun p => { p with state := .active, granted := 8 }) rfl)
  unfold State.enablePort
  split
  · exact hopen
  · exact hopen
  · exact .refl s
  · exact .refl s

/-- A queue refused with credits leaves the checks' findings and the heads of the other ports (R140). -/
theorem refuseQueueWithCredit_leaves (s : State) (i : Initiator) :
    OnlyHeads s (s.refuseQueueWithCredit i) ∧ ∀ j, (s.refuseQueueWithCredit i).head j = s.head j :=
  List.foldlRecOn (motive := fun t => OnlyHeads s t ∧ ∀ j, t.head j = s.head j) (s.port i).queue _
    ⟨modPort_onlyHeads s i (fun p => { p with queue := [] }) fun _ => rfl, fun _ => rfl⟩
    fun t ⟨ht, hh⟩ r _ => ⟨ht.trans (refuseWithCredit_onlyHeads t i r), fun j => (refuseWithCredit_head t i j r).trans (hh j)⟩

/-- So does a queue refused without (R144). -/
theorem refuseQueue_leaves (s : State) (i : Initiator) : OnlyHeads s (s.refuseQueue i) ∧ ∀ j, (s.refuseQueue i).head j = s.head j :=
  List.foldlRecOn (motive := fun t => OnlyHeads s t ∧ ∀ j, t.head j = s.head j) (s.port i).queue _
    ⟨modPort_onlyHeads s i (fun p => { p with queue := [] }) fun _ => rfl, fun _ => rfl⟩
    fun t ⟨ht, hh⟩ r _ => ⟨ht.trans (refuse_onlyHeads t i r), fun j => (refuse_head t i j r).trans (hh j)⟩

theorem drainPort_keepsHeads (s : State) (i : Initiator) : KeepsHeads s (s.drainPort i).1 := by
  unfold State.drainPort
  split
  · obtain ⟨honly, hhead⟩ := refuseQueueWithCredit_leaves s i
    have hport := port_refuseQueueWithCredit s i
    simp only
    generalize s.refuseQueueWithCredit i = u at honly hhead hport
    refine KeepsHeads.trans (.of_verdict (.of_closed (i := i) ?_ ?_ fun j hij => ⟨?_, ?_⟩) ?_) (takeZeroNotice_keepsHeads _ i)
    · rw [port_setHead, port_modPort, if_pos rfl, hport, if_pos rfl]
    · rw [head_setHead, if_pos rfl]
    · rw [port_setHead, port_modPort, if_neg hij, hport, if_neg hij]
    · rw [head_setHead, if_neg hij, head_modPort, hhead]
    · exact fun j r => (verdict_congr rfl rfl rfl rfl rfl j r).trans (honly.verdict j r)
  all_goals exact .refl s

theorem head_closePort (s : State) (i j : Initiator) (st : PortState) : (s.closePort i st).head j = if i = j then .noHead else s.head j := by
  rw [State.closePort, head_setHead, head_modPort]

theorem closePort_takesNoEntry (s : State) (i : Initiator) (st : PortState) : TakesNoEntry s (s.closePort i st) := by
  refine .of_leavesHeads (.of_closed (i := i) ?_ ?_ fun j hij => ⟨?_, ?_⟩) rfl rfl rfl rfl rfl
  · rw [port_closePort, if_pos rfl]
  · rw [head_closePort, if_pos rfl]
  · rw [port_closePort, if_neg hij]
  · rw [head_closePort, if_neg hij]

/-- A fence closes its port before and behind its claim (R144). -/
theorem fence_keepsHeads (s : State) (i : Initiator) : KeepsHeads s (s.fence i) := by
  obtain ⟨honly, hhead⟩ := refuseQueue_leaves s i
  have hempty : ((s.refuseQueue i).port i).queue = [] := (refuseQueue_calm (fun _ => True) s i).2
  have hother := fun j hij => port_refuseQueue_other s (i := i) (j := j) hij
  have hclaim := claim_takesNoEntry (steady_initiator i) (some .errRefused) .fence ((s.refuseQueue i).setHead i .noHead)
  unfold State.fence State.fenceClaim
  simp only
  generalize s.refuseQueue i = t at honly hhead hempty hother hclaim
  have hrefused : TakesNoEntry s (t.setHead i .noHead) := by
    refine .of_leavesHeads (.of_closed (i := i) hempty ?_ fun j hij => ⟨hother j hij, ?_⟩) honly.windows honly.profiles
      (congrArg Regulation.remaining honly.regulation) (congrArg TargetPort.state honly.target) honly.tracker
    · rw [head_setHead, if_pos rfl]
    · rw [head_setHead, if_neg hij, hhead]
  have hrevoked : ∀ u : State, TakesNoEntry u (u.send i .revoke) := fun u => .of_leavesHeads (.of_same rfl rfl) rfl rfl rfl rfl rfl
  exact (((hrefused.trans hclaim).trans (hrevoked _)).trans (closePort_takesNoEntry _ i .fenced)).keepsHeads_notices

theorem fencePort_keepsHeads (s : State) (i : Initiator) : KeepsHeads s (s.fencePort i).1 := by
  have hnotice := takeZeroNotice_keepsHeads s i
  unfold State.fencePort
  simp only
  split <;> simp only
  · exact hnotice.trans (fence_keepsHeads _ i)
  · exact hnotice.trans (fence_keepsHeads _ i)
  · exact hnotice
  · exact hnotice

/-- So does a link reset (R147). -/
theorem resetPort_keepsHeads (s : State) (i : Initiator) : KeepsHeads s (s.resetPort i) := by
  have hdropped : TakesNoEntry s ((s.modPort i fun p => { p with queue := [] }).setHead i .noHead) := by
    refine .of_leavesHeads (.of_closed (i := i) ?_ ?_ fun j hij => ⟨?_, ?_⟩) rfl rfl rfl rfl rfl
    · rw [port_setHead, port_modPort, if_pos rfl]
    · rw [head_setHead, if_pos rfl]
    · rw [port_setHead, port_modPort, if_neg hij]
    · rw [head_setHead, if_neg hij, head_modPort]
  have hrecorded : ∀ u : State, TakesNoEntry u ((u.raise (.portReset i)).logFault (linkResetFault i)) := fun u => by
    obtain ⟨l, f, h⟩ := logFault_only (u.raise (.portReset i)) (linkResetFault i)
    rw [h]
    exact .of_leavesHeads (.of_same rfl rfl) rfl rfl rfl rfl rfl
  have hclaim := hdropped.trans (claim_takesNoEntry (steady_initiator i) none .linkReset _)
  exact ((hclaim.trans (closePort_takesNoEntry _ i .fenced)).trans (hrecorded _)).keepsHeads_notices

theorem linkReset_keepsHeads (s : State) (i : Initiator) : KeepsHeads s (s.linkReset i) := by
  have hnotice := takeZeroNotice_keepsHeads s i
  unfold State.linkReset
  simp only
  split
  · exact hnotice.trans (logFault_keepsHeads _ _)
  all_goals exact hnotice.trans (resetPort_keepsHeads _ i)

theorem takeUndefined_keepsHeads (s : State) (l : Link) : KeepsHeads s (s.takeUndefined l) := by
  cases l
  · exact logFault_keepsHeads s _
  · exact logFault_keepsHeads s _

/-! ### Resets (R193, R195) -/

/-- Where no port holds a request and no head status stands, every status is true. -/
theorem keepsHeads_of_empty {s t : State} (hq : ∀ i, (t.port i).queue = []) (hh : ∀ i, t.head i = .noHead) : KeepsHeads s t :=
  ⟨fun _ => (headsTrue_iff t).mpr fun i => headTrue_of_empty (hq i) (hh i)⟩

theorem trafficReset_keepsHeads (s : State) : KeepsHeads s s.trafficReset := by
  obtain ⟨-, -, hqueue, -⟩ := trafficReset_clears s
  refine keepsHeads_of_empty hqueue fun i => ?_
  have hheads : s.trafficReset.admission.heads = Vector.replicate 4 .noHead := by
    unfold State.trafficReset State.resetTarget
    simp only
    split <;> rfl
  simp [State.head, hheads]

theorem deviceReset_keepsHeads (s : State) : KeepsHeads s s.deviceReset :=
  keepsHeads_of_empty (fun i => by simp [State.port, State.deviceReset, State.reset, Port.reset]) fun i => by
    simp [State.head, State.deviceReset, State.reset]

/-! ### Commands and register writes (R187, R190) -/

theorem withArgument_keepsHeads (s : State) (n : Nat) (code : Word) (act : Fin n → State → State × CommandStatus)
    (h : ∀ k, KeepsHeads s (act k s).1) : KeepsHeads s (s.withArgument n code act) := by
  unfold State.withArgument
  split
  · exact (h _).trans (complete_keepsHeads _ _ _)
  · exact complete_keepsHeads s _ _

theorem commitWindow_keepsHeads (s : State) (w : WindowIdx) : KeepsHeads s (s.commitWindow w).1 := by
  unfold State.commitWindow
  split
  · exact .recheck (.of_same rfl rfl)
  · exact .of_same rfl rfl rfl rfl rfl rfl

theorem commitProfile_keepsHeads (s : State) (i : Initiator) : KeepsHeads s (s.commitProfile i).1 := by
  unfold State.commitProfile
  split
  · exact .recheck (.of_same rfl rfl)
  · exact .of_same rfl rfl rfl rfl rfl rfl

theorem commandWriteEdges_keepsHeads (s : State) : KeepsHeads s s.commandWriteEdges := by
  unfold State.commandWriteEdges
  split
  · refine KeepsHeads.trans ?_ (complete_keepsHeads _ _ _)
    exact .of_same rfl rfl rfl rfl rfl rfl
  · refine KeepsHeads.trans ?_ (complete_keepsHeads _ _ _)
    exact .of_same rfl rfl rfl rfl rfl rfl

theorem commandFaultPop_keepsHeads (s : State) : KeepsHeads s s.commandFaultPop := by
  unfold State.commandFaultPop
  split
  · exact complete_keepsHeads s _ _
  · refine KeepsHeads.trans ?_ (complete_keepsHeads _ _ _)
    exact .of_same rfl rfl rfl rfl rfl rfl

theorem reloadBudget_keepsHeads (s : State) (i : Initiator) : KeepsHeads s (s.reloadBudget i) := .recheck (.of_same rfl rfl)

/-- A command of the command register (R190). -/
theorem writeCommand_keepsHeads (s : State) (code : Word) : KeepsHeads s (s.writeCommand code) := by
  have same : ∀ {n code} {act : Fin n → State → State}, (∀ k, KeepsHeads s (act k s)) →
      KeepsHeads s (s.withArgument n code fun k t => (act k t, .done)) := fun h => withArgument_keepsHeads s _ _ _ h
  unfold State.writeCommand
  refine .ite (withArgument_keepsHeads s _ _ _ (enablePort_keepsHeads s)) ?_
  refine .ite (withArgument_keepsHeads s _ _ _ (drainPort_keepsHeads s)) ?_
  refine .ite (withArgument_keepsHeads s _ _ _ (fencePort_keepsHeads s)) ?_
  refine .ite (commandResync_keepsHeads s) ?_
  refine .ite (commandOffline_keepsHeads s) ?_
  refine .ite (withArgument_keepsHeads s _ _ _ (commitWindow_keepsHeads s)) ?_
  refine .ite (same fun _ => .of_same rfl rfl rfl rfl rfl rfl) ?_
  refine .ite (withArgument_keepsHeads s _ _ _ (commitProfile_keepsHeads s)) ?_
  refine .ite (same fun _ => .of_same rfl rfl rfl rfl rfl rfl) ?_
  refine .ite (commandWriteEdges_keepsHeads s) ?_
  refine .ite (same fun i => reloadBudget_keepsHeads s i) ?_
  refine .ite (same fun _ => .of_same rfl rfl rfl rfl rfl rfl) ?_
  refine .ite (.trans (t := s.setBank .frozen) (.of_same rfl rfl rfl rfl rfl rfl) (complete_keepsHeads ..)) ?_
  refine .ite (.trans (t := s.setBank .running) (.of_same rfl rfl rfl rfl rfl rfl) (complete_keepsHeads ..)) ?_
  refine .ite (.trans (t := s.clearCounters) (.of_same rfl rfl rfl rfl rfl rfl) (complete_keepsHeads ..)) ?_
  refine .ite (same fun _ => .of_same rfl rfl rfl rfl rfl rfl) ?_
  refine .ite (commandFaultPop_keepsHeads s) ?_
  exact .ite ((trafficReset_keepsHeads s).trans (complete_keepsHeads ..)) (complete_keepsHeads s _ _)

theorem writeCounterWord_keepsHeads (s : State) (c : CounterIdx) (k : Nat) (v : Word) : KeepsHeads s (s.writeCounterWord c k v) := by
  unfold State.writeCounterWord
  split <;> exact .of_same rfl rfl rfl rfl rfl rfl

/-- A write of any address (R187). -/
theorem writeWord_keepsHeads (s : State) (a : BitVec 8) (v : Word) : KeepsHeads s (s.writeWord a v) := by
  unfold State.writeWord
  refine .ite (.of_same rfl rfl rfl rfl rfl rfl) ?_
  refine .ite (.of_same rfl rfl rfl rfl rfl rfl) ?_
  refine .ite (writeDetachLimit_keepsHeads s v) ?_
  refine .ite (.of_same rfl rfl rfl rfl rfl rfl) ?_
  refine .ite (.of_same rfl rfl rfl rfl rfl rfl) ?_
  refine .ite (.of_same rfl rfl rfl rfl rfl rfl) ?_
  refine .ite (writeCommand_keepsHeads s v) ?_
  refine .ite (.of_same rfl rfl rfl rfl rfl rfl) ?_
  refine .ite (.of_same rfl rfl rfl rfl rfl rfl) ?_
  refine .ite (writeCounterWord_keepsHeads s _ _ v) ?_
  refine .ite (.of_same rfl rfl rfl rfl rfl rfl) ?_
  exact .ite (.of_same rfl rfl rfl rfl rfl rfl) (.refl s)

/-! ### Every command and every step -/

/-- A command that acts out of reset alone keeps the statuses true where its act does. -/
theorem keepsHeads_of_next {f : State → State} {s t : State} (h : KeepsHeads s (f s))
    (he : (.next (s.outOfReset f) : Host.Outcome State Fault Refusal) = .next t) : KeepsHeads s t := by
  cases he
  exact .ite h (.refl s)

/-- A row of the command register keeps the statuses true. -/
theorem keepsHeads_of_commandOfCode {s t : State} (code : Word) (he : exec (commandOfCode code) s = .next t) : KeepsHeads s t := by
  rw [exec_commandOfCode] at he
  exact keepsHeads_of_next (f := fun t => t.writeCommand code) (writeCommand_keepsHeads s code) he

/-- A row of the register window keeps the statuses true. -/
theorem keepsHeads_of_writeCommandAt {s t : State} (a : BitVec 8) (v : Word) (he : exec (writeCommandAt a v) s = .next t) :
    KeepsHeads s t := by
  rw [exec_writeCommandAt] at he
  exact keepsHeads_of_next (f := fun t => t.writeWord a v) (writeWord_keepsHeads s a v) he

/-- Every command keeps the head statuses true. -/
theorem exec_keepsHeads {c : Instr} {s t : State} (h : exec c s = .next t) : KeepsHeads s t := by
  cases c with
  | request i r => exact keepsHeads_of_next (f := fun t => t.arrive i r) (arrive_keepsHeads s i r) h
  | linkReset i => exact keepsHeads_of_next (f := fun t => t.linkReset i) (linkReset_keepsHeads s i) h
  | undefinedKindMessage l k => exact keepsHeads_of_next (f := fun t => t.takeUndefined l) (takeUndefined_keepsHeads s l) h
  | targetResponse r => exact keepsHeads_of_next (f := fun t => t.takeResponse r) (takeResponse_keepsHeads s r) h
  | targetCredit n => exact keepsHeads_of_next (f := fun t => t.takeCredit n) (takeCredit_keepsHeads s n) h
  | resyncAck n => exact keepsHeads_of_next (f := fun t => t.takeAck n) (takeAck_keepsHeads s n) h
  | resetNotice n => exact keepsHeads_of_next (f := fun t => t.takeResetNotice n) (takeResetNotice_keepsHeads s n) h
  | tick => exact keepsHeads_of_next (tick_keepsHeads s) h
  | expiryClaim => exact keepsHeads_of_next (takeExpiry_keepsHeads s) h
  | periodExpiry => exact keepsHeads_of_next (takePeriodExpiry_keepsHeads s) h
  | resyncWaitExpiry => exact keepsHeads_of_next (takeResyncWaitExpiry_keepsHeads s) h
  | grant => exact keepsHeads_of_next (grant_keepsHeads s) h
  | issue => exact keepsHeads_of_next (issue_keepsHeads s) h
  | drainCompletion p => exact keepsHeads_of_next (f := fun t => t.takeZeroNotice p) (takeZeroNotice_keepsHeads s p) h
  | deviceReset => cases h; exact deviceReset_keepsHeads s
  | portEnable => exact keepsHeads_of_commandOfCode Config.codePortEnable h
  | portDrain => exact keepsHeads_of_commandOfCode Config.codePortDrain h
  | portFence => exact keepsHeads_of_commandOfCode Config.codePortFence h
  | targetResync => exact keepsHeads_of_commandOfCode Config.codeTargetResync h
  | targetOffline => exact keepsHeads_of_commandOfCode Config.codeTargetOffline h
  | writeWindow => exact keepsHeads_of_commandOfCode Config.codeWriteWindow h
  | readWindow => exact keepsHeads_of_commandOfCode Config.codeReadWindow h
  | writeProfile => exact keepsHeads_of_commandOfCode Config.codeWriteProfile h
  | readProfile => exact keepsHeads_of_commandOfCode Config.codeReadProfile h
  | writeEdges => exact keepsHeads_of_commandOfCode Config.codeWriteEdges h
  | budgetReload => exact keepsHeads_of_commandOfCode Config.codeBudgetReload h
  | histClear => exact keepsHeads_of_commandOfCode Config.codeHistClear h
  | counterFreeze => exact keepsHeads_of_commandOfCode Config.codeCounterFreeze h
  | counterUnfreeze => exact keepsHeads_of_commandOfCode Config.codeCounterUnfreeze h
  | counterClear => exact keepsHeads_of_commandOfCode Config.codeCounterClear h
  | trackerSnapshot => exact keepsHeads_of_commandOfCode Config.codeTrackerSnapshot h
  | faultPop => exact keepsHeads_of_commandOfCode Config.codeFaultPop h
  | trafficReset => exact keepsHeads_of_commandOfCode Config.codeTrafficReset h
  | unassignedCommand code => exact keepsHeads_of_next (f := fun t => t.writeCommand code) (writeCommand_keepsHeads s code) h
  | prescalerWrite v => exact keepsHeads_of_writeCommandAt 0x08 v h
  | regulationPeriodWrite v => exact keepsHeads_of_writeCommandAt 0x09 v h
  | detachLimitWrite v => exact keepsHeads_of_writeCommandAt 0x0A v h
  | resyncWaitWrite v => exact keepsHeads_of_writeCommandAt 0x0B v h
  | tickCountLowRead => exact keepsHeads_of_next (f := State.readTickLow) (.of_same rfl rfl rfl rfl rfl rfl) h
  | interruptFlagsWrite v => exact keepsHeads_of_writeCommandAt 0x10 v h
  | interruptEnablesWrite v => exact keepsHeads_of_writeCommandAt 0x11 v h
  | counterValueLowRead c => exact keepsHeads_of_next (f := fun t => t.readCounterLow c) (.of_same rfl rfl rfl rfl rfl rfl) h
  | counterValueHighWrite c v => exact keepsHeads_of_next (f := fun t => t.writeCounterHigh c v) (.of_same rfl rfl rfl rfl rfl rfl) h
  | counterValueLowWrite c v => exact keepsHeads_of_next (f := fun t => t.writeCounterLow c v) (.of_same rfl rfl rfl rfl rfl rfl) h
  | counterControlWrite c w v => exact keepsHeads_of_next (f := fun t => t.writeControl c w v) (.of_same rfl rfl rfl rfl rfl rfl) h
  | counterOverflowFlagsWrite v => exact keepsHeads_of_writeCommandAt 0x98 v h
  | histogramIndexWrite v => exact keepsHeads_of_writeCommandAt 0xA8 v h
  | stagingWrite k v => exact keepsHeads_of_next (f := fun t => t.setStaged k v) (.of_same rfl rfl rfl rfl rfl rfl) h
  | registerWrite a v => exact keepsHeads_of_next (f := fun t => t.writeWord a v) (writeWord_keepsHeads s a v) h

/-- Every step keeps the head statuses true. -/
theorem step_keepsHeads {s t : State} (h : step s = .next t) : KeepsHeads s t := by
  unfold step at h
  split at h
  · exact keepsHeads_of_next (countRefclk_keepsHeads s) h
  · rename_i c rest _
    exact KeepsHeads.trans (t := { s with pending := rest }) (.of_same rfl rfl rfl rfl rfl rfl) (exec_keepsHeads h)

/-- Settles O57: an event either leaves what the five checks read, or ends in a re-check or a head arrival, so every status is true after
it. -/
theorem headStatusesStayTrue : Obligations.HeadStatusesStayTrue := fun _ _ hs hstep => (step_keepsHeads hstep).keeps hs

end Sys2Proof.Machine
end

section
/-!
The admission arbiter's choice (R62, R63), and O24.
-/

namespace Sys2Proof.Machine

/-! ### The first of a list that passes -/

/-- Along a list that a measure increases on, the first that passes is the one that passes with the least measure. -/
theorem find?_eq_some_iff_least {α : Type} {pos : α → Nat} {l : List α} (hl : l.Pairwise fun a b => pos a < pos b) (f : α → Bool) (i : α) :
    l.find? f = some i ↔ i ∈ l ∧ f i = true ∧ ∀ j ∈ l, f j = true → pos i ≤ pos j := by
  induction l with
  | nil => simp
  | cons a l ih =>
    obtain ⟨ha, hl⟩ := List.pairwise_cons.mp hl
    by_cases hf : f a = true
    · rw [List.find?_cons_of_pos hf]
      constructor
      · rintro ⟨⟩
        exact ⟨List.mem_cons_self, hf, List.forall_mem_cons.mpr ⟨fun _ => le_rfl, fun j hj _ => (ha j hj).le⟩⟩
      · rintro ⟨hi, -, hleast⟩
        rcases List.mem_cons.mp hi with rfl | hi
        · rfl
        · exact absurd (hleast a List.mem_cons_self hf) (ha i hi).not_ge
    · rw [List.find?_cons_of_neg hf, ih hl, List.forall_mem_cons, List.mem_cons]
      constructor
      · rintro ⟨hi, hfi, hleast⟩
        exact ⟨.inr hi, hfi, fun h => absurd h hf, hleast⟩
      · rintro ⟨hi, hfi, -, hleast⟩
        exact ⟨hi.resolve_left fun h => hf (h ▸ hfi), hfi, hleast⟩

/-! ### The search order (R62) -/

theorem mem_searchOrder : ∀ p i : Initiator, i ∈ searchOrder p := by decide

/-- The search takes the initiators by their distance from the index after the pointer, wrapping from 3 to 0. -/
theorem pairwise_searchOrder : ∀ p : Initiator, (searchOrder p).Pairwise fun i j => (i - p - 1).val < (j - p - 1).val := by decide

/-- A head competes when it is ELIGIBLE and passes its checks as the state stands (R63). -/
theorem candidate_iff (s : State) (i : Initiator) : s.candidate i = true ↔
    s.head i = .eligible ∧ ∃ r ∈ (s.port i).queue.head?, s.verdict i r = .pass := by
  unfold State.candidate
  cases (s.port i).queue <;> simp

/-- The winner of one class: a competing head of the class that none of the class comes before. -/
theorem winnerOf_eq_some_iff (s : State) (c : Cls) (p i : Initiator) : s.winnerOf c p = some i ↔
    s.candidate i = true ∧ (s.profile i).cls = c ∧
      ∀ j, s.candidate j = true → (s.profile j).cls = c → (i - p - 1).val ≤ (j - p - 1).val := by
  rw [State.winnerOf, find?_eq_some_iff_least (pairwise_searchOrder p)]
  simp only [mem_searchOrder, true_and, Bool.and_eq_true, beq_iff_eq, forall_true_left, and_assoc, and_imp]

/-- No winner in a class: no head of the class competes. -/
theorem winnerOf_eq_none_iff (s : State) (c : Cls) (p : Initiator) : s.winnerOf c p = none ↔
    ∀ j, s.candidate j = true → (s.profile j).cls ≠ c := by
  simp only [State.winnerOf, List.find?_eq_none, mem_searchOrder, true_implies, Bool.and_eq_true, beq_iff_eq, not_and, ne_eq]

/-- The winner of a grant is the HIGH winner, or where there is none the NORMAL one (R62). -/
theorem grantWinner_eq_some_iff (s : State) (i : Initiator) : s.grantWinner = some i ↔
    s.winnerOf .high s.admission.highPointer = some i ∨
      s.winnerOf .high s.admission.highPointer = none ∧ s.winnerOf .normal s.admission.normalPointer = some i := by
  unfold State.grantWinner
  cases s.winnerOf .high s.admission.highPointer <;> simp

/-- Settles O24: within a class the search meets the winner first, and the NORMAL class is searched only where the HIGH search fails. -/
theorem grantWinnerRule : Obligations.GrantWinnerRule := by
  intro s i
  simp only [← candidate_iff, grantWinner_eq_some_iff, winnerOf_eq_some_iff, winnerOf_eq_none_iff]
  have hcls : ∀ j, (s.profile j).cls ≠ .high ↔ (s.profile j).cls = .normal := fun j => by cases (s.profile j).cls <;> simp
  cases hc : (s.profile i).cls with
  | high => simp
  | normal => simp [hcls, and_left_comm]

end Sys2Proof.Machine
end

section
/-!
The five checks of a head in their order (R54 to R58, R74 to R77), what the checks of heads do from one state to the next (R53, R57, R60, R61),
and O50.
-/

namespace Sys2Proof.Machine

/-! ### Lookup and remap (R74, R75, R77) -/

theorem holds_iff (w : Window) (line : Nat) : w.holds line = true ↔ w.enabled = true ∧ w.baseLine ≤ line ∧ line ≤ w.limitLine := by
  simp [Window.holds, and_assoc]

/-- The window that decides a line is the lowest-numbered one that holds it. -/
theorem lookup_eq_some_iff (s : State) (line : Nat) (w : WindowIdx) : s.lookup line = some w ↔
    s.windows[w].holds line = true ∧ ∀ v, s.windows[v].holds line = true → w ≤ v := by
  rw [State.lookup, find?_eq_some_iff_least (pos := Fin.val) (List.pairwise_lt_finRange 8)]
  simp only [List.mem_finRange, true_and, forall_true_left, Fin.le_def]

theorem lookup_eq_none_iff (s : State) (line : Nat) : s.lookup line = none ↔ ∀ w : WindowIdx, ¬s.windows[w].holds line = true := by
  simp only [State.lookup, List.find?_eq_none, List.mem_finRange, true_implies]

/-- A window within its bounds moves a line that it holds, within the byte space, and keeps the offset (R69, R77). -/
theorem remap_toNat {w : Window} (hb : w.withinBounds = true) {a : Addr} (h : w.holds (lineOf a) = true) :
    (w.remap a).toNat = 64 * (w.remapLine + (lineOf a - w.baseLine)) + a.toNat % 64 := by
  simp only [Window.withinBounds, Bool.and_eq_true, decide_eq_true_eq] at hb
  obtain ⟨-, hremap⟩ := hb
  have hline : Config.maxLine = 67108863 := rfl
  obtain ⟨-, hlow, hhigh⟩ := (holds_iff w (lineOf a)).mp h
  rw [Window.remap, BitVec.toNat_ofNat]
  exact Nat.mod_eq_of_lt (by omega)

theorem lineOf_remap {w : Window} (hb : w.withinBounds = true) {a : Addr} (h : w.holds (lineOf a) = true) :
    lineOf (w.remap a) = w.remapLine + (lineOf a - w.baseLine) := by
  rw [lineOf, remap_toNat hb h]
  omega

/-! ### The five checks (R54) -/

/-- What a right allows (R76). -/
theorem allows_iff (g : Right) (op : Op) :
    g.allows op = true ↔ g = .readWrite ∨ (g = .read ∧ op = .read) ∨ (g = .write ∧ op = .write) := by
  cases g <;> cases op <;> simp [Right.allows]

/-- The quota rule (R58). -/
theorem quotaAllows_iff (s : State) (i : Initiator) : s.quotaAllows i = true ↔ s.inUse i + 1 ≤ (s.profile i).cap ∧
    (1 + ((initiators.filter (· ≠ i)).map fun j => (s.profile j).reserved - s.inUse j).sum ≤ s.freeCount ∨
      (s.inUse i < (s.profile i).reserved ∧ 1 ≤ s.freeCount)) := by
  simp only [State.quotaAllows, Bool.and_eq_true, Bool.or_eq_true, decide_eq_true_eq]
  rfl

section
variable {s : State} {i : Initiator} {r : Request} {w : WindowIdx}

/-- Step 1 refuses a line that no window holds. -/
theorem verdict_of_undecoded (h : s.lookup (lineOf r.address) = none) : s.verdict i r = .refuse .decode := by
  simp only [State.verdict, h]

variable (h : s.lookup (lineOf r.address) = some w)
include h

/-- Step 2 refuses what the window's right does not allow. -/
theorem verdict_of_denied (hr : ¬s.windows[w].rights[i].allows r.op = true) : s.verdict i r = .refuse .denied := by
  simp only [State.verdict, h, Bool.eq_false_iff.mpr hr, Bool.not_false, if_true]

variable (hr : s.windows[w].rights[i].allows r.op = true)
include hr

/-- Step 3 refuses while the target is OFFLINE or SUSPECT. -/
theorem verdict_of_targetAway (ht : s.target.state = .offline ∨ s.target.state = .suspect) : s.verdict i r = .refuse .target := by
  rcases ht with ht | ht <;> simp only [State.verdict, h, hr, ht, Bool.not_true, Bool.false_eq_true, if_false]

/-- Step 3 waits while the target is RESYNCING. -/
theorem verdict_of_resyncing (ht : s.target.state = .resyncing) : s.verdict i r = .wait .target := by
  simp only [State.verdict, h, hr, ht, Bool.not_true, Bool.false_eq_true, if_false]

variable (ht : s.target.state = .online)
include ht

/-- Step 4 waits for a HALTED initiator. -/
theorem verdict_of_halted (hm : (s.profile i).mode = .halted) : s.verdict i r = .wait .halt := by
  simp only [State.verdict, h, hr, ht, Bool.not_true, Bool.false_eq_true, if_false, hm]

/-- Step 4 waits for the budget of a METERED initiator. -/
theorem verdict_of_budget (hm : (s.profile i).mode = .metered) (hb : s.remaining i < r.beats) : s.verdict i r = .wait .budget := by
  simp only [State.verdict, h, hr, ht, Bool.not_true, Bool.false_eq_true, if_false, hm, hb, if_true]

/-- Step 5 is the quota rule. -/
theorem verdict_of_quota (hm : (s.profile i).mode = .free ∨ ((s.profile i).mode = .metered ∧ r.beats ≤ s.remaining i)) :
    s.verdict i r = if s.quotaAllows i then .pass else .wait .quota := by
  rcases hm with hm | ⟨hm, hb⟩
  · simp only [State.verdict, h, hr, ht, Bool.not_true, Bool.false_eq_true, if_false, hm]
  · simp only [State.verdict, h, hr, ht, Bool.not_true, Bool.false_eq_true, if_false, hm, if_neg (Nat.not_lt.mpr hb)]

end

/-! ### What the checks of heads do -/

/-- The pieces that the check of one port may change. -/
def Piece.ofCheck (i : Initiator) : List Piece := [.head i, .queue i, .granted i, .link i, .flag .budgetWait] ++ Piece.ofReport

/-- A check of one port's head changes that port's pieces alone. -/
theorem frame_of_checksPort {s t : State} {i : Initiator} {v : PortView} (h : OnlyHeads s t) (hc : ChecksPort s t i v) :
    s.Frame t (Piece.ofCheck i) := by
  refine frame_narrow h.frame fun p hp hn => ?_
  have hview : ∀ j, (j = i → p ∈ Piece.ofCheck i) → t.view j = s.view j := fun j hj => hc.other j fun hij => hn (hj hij.symm)
  simp only [Piece.ofRecheck, List.mem_append, List.mem_cons, List.mem_map] at hp
  rcases hp with (((⟨j, -, rfl⟩ | ⟨j, -, rfl⟩) | ⟨j, -, rfl⟩) | ⟨j, -, rfl⟩) | rfl | hp
  · exact decide_eq_true (congrArg PortView.status (hview j fun hj => by simp [Piece.ofCheck, hj]))
  · exact decide_eq_true (congrArg PortView.queue (hview j fun hj => by simp [Piece.ofCheck, hj]))
  · exact decide_eq_true (congrArg PortView.granted (hview j fun hj => by simp [Piece.ofCheck, hj]))
  · exact decide_eq_true (congrArg PortView.sent (hview j fun hj => by simp [Piece.ofCheck, hj]))
  · exact absurd (by simp [Piece.ofCheck]) hn
  · exact absurd (List.mem_append_right _ hp) hn

/-- The check of one port's head, said of the state it leaves. -/
theorem checked_of_checksPort {s t : State} {i : Initiator} {v : PortView} (h : OnlyHeads s t) (hc : ChecksPort s t i v) :
    t.view i = t.afterCheck i v ∧ t.flag .budgetWait = (s.flag .budgetWait || t.entersBudgetWait i v) ∧
      s.Counts t (t.refusalReports i v) ∧ s.Frame t (Piece.ofCheck i) := by
  rw [afterCheck_congr h.verdict, entersBudgetWait_congr h.verdict, refusalReports_congr h.verdict]
  exact ⟨hc.self, hc.budgetWait, counts_of_tallies hc.tallies, frame_of_checksPort h hc⟩

/-- A check of every head after an event that took the reports `rs` and raised no BUDGET_WAIT, the ports standing as the event left them. -/
theorem checks_of_checksPorts {s u t : State} {rs : List Report} (h : OnlyHeads u t) (hc : ChecksPorts u t initiators)
    (hflag : u.flag .budgetWait = s.flag .budgetWait) (htally : s.monitor.mayFreeze = false → Tallies s u (s.takenBy rs)) :
    s.Checks t true u.view rs := by
  have hv := h.verdict
  obtain ⟨hview, hbudget, htallies⟩ := hc
  refine ⟨fun i => ?_, ?_, counts_of_tallies fun hm => ?_⟩
  · rw [hview, afterCheck_congr hv]
    simp only [mem_initiators, true_and, Bool.true_and, decide_eq_true_eq]
    rfl
  · rw [hbudget, hflag]
    simp only [entersBudgetWait_congr hv, Bool.true_and]
    rfl
  · have hu := htally hm
    refine (hu.trans (htallies (hu.mayFreeze hm))).congr fun c => ?_
    rw [hu.takenBy, takenBy_append]
    simp only [refusalReports_congr hv, Bool.true_and, decide_eq_true_eq]
    rfl

/-- A re-check after an event that left the ports, the flag and the monitor. -/
theorem checks_of_calm {s u : State} (hview : u.view = s.view) (hflag : u.flag .budgetWait = s.flag .budgetWait)
    (hmonitor : u.monitor = s.monitor) : s.Checks u.recheck true s.view :=
  hview ▸ checks_of_checksPorts (recheck_onlyHeads u) (recheck_checksPorts u) hflag fun _ => (Tallies.of_monitor hmonitor).congr fun c => (takenBy_nil s c).symm

/-- What a check did is told as well of a later state with the same ports, the same findings, the same flag and the same monitor. -/
theorem checks_congr {s t u : State} {did : Bool} {v : Initiator → PortView} {rs : List Report} (h : s.Checks t did v rs)
    (hview : u.view = t.view) (hv : ∀ i r, u.verdict i r = t.verdict i r) (hflag : u.flag .budgetWait = t.flag .budgetWait)
    (hmonitor : u.monitor = t.monitor) : s.Checks u did v rs := by
  simpa only [State.Checks, State.Counts, State.counter, hview, hflag, hmonitor, afterCheck_congr hv, entersBudgetWait_congr hv,
    refusalReports_congr hv] using h

/-! ### O50 -/

/-- Settles O50: the checks one step after another, and the checks of heads from the one check of a queue. -/
theorem headChecksInOrder : Obligations.HeadChecksInOrder := by
  refine ⟨by decide, fun s i => ⟨?_, fun hi => ?_, fun hi => ?_, ?_, (recheck_onlyHeads s).frame⟩, fun s i r => ⟨fun hnone => ?_, fun w hw hlow => ?_⟩⟩
  · exact checked_of_checksPort (headArrives_onlyHeads s i) (checkQueue_checksPort i _ .noHead s rfl)
  · have hone : s.recheckOne i = s.checkQueue i (s.head i) (s.port i).queue := if_neg hi
    have h := checked_of_checksPort (recheckOne_onlyHeads s i) (hone ▸ checkQueue_checksPort i _ (s.head i) s rfl)
    exact h
  · exact if_pos hi
  · exact checks_of_calm rfl rfl rfl
  · have hlookup : s.lookup (lineOf r.address) = none := (lookup_eq_none_iff s _).mpr fun w hw => hnone w ((holds_iff _ _).mp hw)
    exact ⟨hlookup, verdict_of_undecoded hlookup⟩
  · have hholds : s.windows[w].holds (lineOf r.address) = true := (holds_iff _ _).mpr hw
    have hlookup : s.lookup (lineOf r.address) = some w :=
      (lookup_eq_some_iff s _ w).mpr ⟨hholds, fun v hv => Nat.not_lt.mp fun hvw => hlow v hvw ((holds_iff _ _).mp hv)⟩
    refine ⟨hlookup, ⟨fun hna => verdict_of_denied hlookup fun ha => hna ((allows_iff _ _).mp ha), fun ha => ?_⟩, fun hb =>
      ⟨remap_toNat hb hholds, lineOf_remap hb hholds⟩⟩
    have hallows := (allows_iff _ _).mpr ha
    refine ⟨verdict_of_targetAway hlookup hallows, verdict_of_resyncing hlookup hallows, fun ht => ⟨verdict_of_halted hlookup hallows ht,
      verdict_of_budget hlookup hallows ht, fun hm => ?_⟩⟩
    rw [verdict_of_quota hlookup hallows ht hm]
    exact ⟨fun hq => if_pos ((quotaAllows_iff s i).mpr hq), fun hq => if_neg fun hc => hq ((quotaAllows_iff s i).mp hc)⟩

end Sys2Proof.Machine
end

section
/-!
The staged profile and its image (R50, R52, R188), and O34 and O35.
-/

namespace Sys2Proof.Machine

/-! ### Completion of a command (R190, R191) -/

theorem complete_frame (s : State) (code : Word) (st : CommandStatus) : s.Frame (s.complete code st) Piece.ofCommand := by
  have hset : s.Frame { s with management := { s.management with command := code, status := st } } [.command, .status] := by
    refine ⟨rfl, fun p hp => ?_⟩
    cases p with
    | command => exact absurd (by simp) hp
    | status => exact absurd (by simp) hp
    | histogramIndex => exact decide_eq_true ⟨rfl, rfl⟩
    | _ => exact decide_eq_true rfl
  rcases complete_cases s code st with ⟨rfl, h⟩ | ⟨-, h⟩ <;> rw [h]
  · exact frame_mono hset (by simp [Piece.ofCommand])
  · exact frame_trans hset (raise_frame _ .commandRefused)

/-- A command completes after an event that left COMMAND_REFUSED. -/
theorem complete_completes {s u : State} (h : u.flag .commandRefused = s.flag .commandRefused) (code : Word) (st : CommandStatus) :
    s.Completes (u.complete code st) code st := by
  rw [State.Completes, ← h]
  rcases complete_cases u code st with ⟨rfl, hc⟩ | ⟨hst, hc⟩ <;> rw [hc]
  · exact ⟨rfl, rfl, by simp [State.flag]⟩
  · exact ⟨rfl, rfl, by rw [flag_raise, decide_eq_true rfl, decide_eq_true hst]; rfl⟩

/-! ### The staged profile (R50, R188) -/

theorem bits_low (w : Word) : bits w 0 8 = w.toNat % 256 := by simp [bits]

theorem bits_high (w : Word) : bits w 8 8 = w.toNat / 256 := by
  have hw := w.isLt
  rw [bits]
  omega

theorem clsOfCode_eq : ∀ n : Nat, clsOfCode n = if n ≤ 1 then some (if n = 0 then .normal else .high) else none
  | 0 => rfl
  | 1 => rfl
  | n + 2 => (if_neg (by omega)).symm

theorem modeOfCode_eq : ∀ n : Nat,
    modeOfCode n = if n ≤ 2 then some (if n = 0 then .free else if n = 1 then .metered else .halted) else none
  | 0 => rfl
  | 1 => rfl
  | 2 => rfl
  | n + 3 => (if_neg (by omega)).symm

/-- A staged profile that R50 refuses. -/
def State.refusesProfile (s : State) : Prop :=
  1 < (s.staged 0).toNat % 256 ∨ 2 < (s.staged 0).toNat / 256 ∨ 16 < (s.staged 3).toNat ∨
    (s.staged 4).toNat = 0 ∨ 64 < (s.staged 4).toNat ∨ (s.staged 4).toNat < (s.staged 3).toNat

/-- The seven fields as they are staged (R188). -/
def State.profileFields (s : State) : Profile :=
  { cls := if (s.staged 0).toNat % 256 = 0 then .normal else .high
    mode := if (s.staged 0).toNat / 256 = 0 then .free else if (s.staged 0).toNat / 256 = 1 then .metered else .halted
    budget := (s.staged 1).toNat, carryLimit := (s.staged 2).toNat, reserved := (s.staged 3).toNat
    cap := (s.staged 4).toNat, deadline := (s.staged 5).toNat }

theorem withinBounds_profileFields (s : State) : s.profileFields.withinBounds = true ↔
    (s.staged 3).toNat ≤ 16 ∧ 1 ≤ (s.staged 4).toNat ∧ (s.staged 4).toNat ≤ 64 ∧ (s.staged 3).toNat ≤ (s.staged 4).toNat := by
  simp [Profile.withinBounds, State.profileFields, and_assoc]

/-- The staged profile, its codes read and its bounds checked. -/
theorem stagedProfile_eq (s : State) : s.stagedProfile =
    if (s.staged 0).toNat % 256 ≤ 1 ∧ (s.staged 0).toNat / 256 ≤ 2 ∧ s.profileFields.withinBounds = true then some s.profileFields else none := by
  unfold State.stagedProfile
  rw [bits_low, bits_high, clsOfCode_eq, modeOfCode_eq]
  by_cases hc : (s.staged 0).toNat % 256 ≤ 1
  · by_cases hm : (s.staged 0).toNat / 256 ≤ 2
    · simp only [hc, hm, if_true, true_and]
      rfl
    · simp only [hc, hm, if_true, if_false, false_and, and_false]
  · simp only [hc, if_false, false_and]

theorem stagedProfile_of_refused {s : State} (h : s.refusesProfile) : s.stagedProfile = none := by
  rw [stagedProfile_eq, if_neg]
  rintro ⟨hc, hm, hb⟩
  obtain ⟨hr, hlow, hhigh, hcap⟩ := (withinBounds_profileFields s).mp hb
  rcases h with h | h | h | h | h | h <;> omega

theorem stagedProfile_of_accepted {s : State} (h : ¬s.refusesProfile) : s.stagedProfile = some s.profileFields := by
  simp only [State.refusesProfile, not_or, not_lt] at h
  obtain ⟨hc, hm, hr, hlow, hhigh, hcap⟩ := h
  rw [stagedProfile_eq, if_pos ⟨hc, hm, (withinBounds_profileFields s).mpr ⟨hr, Nat.one_le_iff_ne_zero.mpr hlow, hhigh, hcap⟩⟩]

/-! ### WRITE_PROFILE (R50) -/

/-- The state with profile `i` replaced. -/
def State.withProfile (s : State) (i : Initiator) (p : Profile) : State :=
  { s with admission := { s.admission with profiles := s.admission.profiles.set i p } }

theorem profile_withProfile (s : State) (i j : Initiator) (p : Profile) :
    (s.withProfile i p).profile j = if i = j then p else s.profile j := set_get _ i j p

theorem withProfile_frame (s : State) (i : Initiator) (p : Profile) : s.Frame (s.withProfile i p) [.profile i] := by
  refine ⟨rfl, fun q hq => ?_⟩
  cases q with
  | profile j =>
    have hij : i ≠ j := by rintro rfl; exact hq (List.mem_singleton_self _)
    exact decide_eq_true (by rw [profile_withProfile, if_neg hij])
  | histogramIndex => exact decide_eq_true ⟨rfl, rfl⟩
  | _ => exact decide_eq_true rfl

section
variable {s : State} {i : Initiator} (hr : s.rstN = true) (hi : s.management.argument.toNat = i)
include hr hi

theorem exec_writeProfile_of_refused (h : s.stagedProfile = none) :
    exec .writeProfile s = .next ((s.raise .configError).complete 0x22 .invalid) := by
  refine (next_of_high hr State.commandWriteProfile).trans (congrArg Host.Outcome.next ?_)
  rw [State.commandWriteProfile, withArgument_of_lt s 4 _ _ i hi, State.commitProfile, h]
  rfl

theorem exec_writeProfile_of_accepted {p : Profile} (h : s.stagedProfile = some p) :
    exec .writeProfile s = .next ((s.withProfile i p).recheck.complete 0x22 .done) := by
  refine (next_of_high hr State.commandWriteProfile).trans (congrArg Host.Outcome.next ?_)
  rw [State.commandWriteProfile, withArgument_of_lt s 4 _ _ i hi, State.commitProfile, h]
  rfl

end

theorem profile_complete (s : State) (code : Word) (st : CommandStatus) (j : Initiator) : (s.complete code st).profile j = s.profile j := by
  obtain ⟨f, h⟩ := complete_only s code st
  rw [h]
  rfl

/-- A commit completed leaves the profiles as it wrote them. -/
theorem profile_of_commit (s : State) (i j : Initiator) (p : Profile) :
    ((s.withProfile i p).recheck.complete 0x22 .done).profile j = if i = j then p else s.profile j := by
  rw [profile_complete, profile_of_admission (recheck_onlyHeads _).profiles, profile_withProfile]

/-- Settles O34: the staged fields decide, a refusal is a flag and a status, and a commit is followed by a re-check. -/
theorem writeProfileCommits : Obligations.WriteProfileCommits := by
  intro i s hr hi
  refine ⟨fun hbad => ?_, fun hgood => ?_⟩
  · refine ⟨_, exec_writeProfile_of_refused hr hi (stagedProfile_of_refused hbad), complete_completes ?_ _ _, ?_,
      frame_trans (raise_frame s .configError) (complete_frame _ _ _)⟩
    · rw [flag_raise, decide_eq_false (by simp), Bool.or_false]
    · have hkept := of_decide_eq_true ((complete_frame (s.raise .configError) 0x22 .invalid).2 (.flag .configError) (by simp [Piece.ofCommand]))
      rw [hkept, flag_raise, decide_eq_true rfl, Bool.or_true]
  · have honly := recheck_onlyHeads (s.withProfile i s.profileFields)
    have hchecks : s.Checks (s.withProfile i s.profileFields).recheck true s.view :=
      checks_of_calm (u := s.withProfile i s.profileFields) rfl rfl rfl
    refine ⟨_, exec_writeProfile_of_accepted hr hi (stagedProfile_of_accepted hgood),
      complete_completes (honly.flag .commandRefused (by simp) (by simp)) _ _, ?_, ?_,
      frame_trans (withProfile_frame s i _) (frame_trans honly.frame (complete_frame _ _ _))⟩
    · rw [profile_of_commit, if_pos rfl]
      rfl
    · rw [complete_of_done]
      generalize (s.withProfile i s.profileFields).recheck = t at hchecks
      exact checks_congr hchecks rfl (verdict_congr rfl rfl rfl rfl rfl) rfl rfl

/-! ### READ_PROFILE (R52) -/

theorem lowOf_toNat {n : Nat} (h : n ≤ 65535) : (lowOf n).toNat = n := by
  rw [lowOf, BitVec.toNat_ofNat]
  omega

/-- The two words of a number of 32 bits. -/
theorem highOf_lowOf {n : Nat} (h : n < 2 ^ 32) : (highOf n).toNat * 65536 + (lowOf n).toNat = n := by
  rw [highOf, lowOf, BitVec.toNat_ofNat, BitVec.toNat_ofNat]
  omega

theorem setStaging_frame (s : State) (v : Vector Word 8) : s.Frame (s.setStaging v) ((List.finRange 8).map .staging) := by
  refine ⟨rfl, fun p hp => ?_⟩
  cases p with
  | staging k => exact absurd (List.mem_map_of_mem (List.mem_finRange k)) hp
  | histogramIndex => exact decide_eq_true ⟨rfl, rfl⟩
  | _ => exact decide_eq_true rfl

/-- The word of class and mode (R188). -/
theorem codes_toNat (c : Cls) (m : Mode) : (lowOf (c.code + m.code * 256)).toNat = (if c = .high then 1 else 0) +
    (match m with | .free => 0 | .metered => 256 | .halted => 512) := by
  cases c <;> cases m <;> rfl

/-- The fields staged as an image are the profile's own (R52). -/
theorem profileFields_of_image {t : State} {p : Profile} {n : Nat} (hp : p.InRange) (ht : ∀ k, t.staged k = (p.image n)[k]) :
    t.profileFields = p ∧ ¬t.refusesProfile := by
  obtain ⟨hbounds, hbudget, hcarry, hdeadline⟩ := hp
  simp only [Profile.withinBounds, Bool.and_eq_true, decide_eq_true_eq] at hbounds
  obtain ⟨⟨⟨hreserved, hlow⟩, hhigh⟩, hcap⟩ := hbounds
  have h0 : (t.staged 0).toNat = _ := (congrArg BitVec.toNat (ht 0)).trans (codes_toNat p.cls p.mode)
  have h1 : (t.staged 1).toNat = p.budget := (congrArg BitVec.toNat (ht 1)).trans (lowOf_toNat hbudget)
  have h2 : (t.staged 2).toNat = p.carryLimit := (congrArg BitVec.toNat (ht 2)).trans (lowOf_toNat hcarry)
  have h3 : (t.staged 3).toNat = p.reserved := (congrArg BitVec.toNat (ht 3)).trans (lowOf_toNat (by omega))
  have h4 : (t.staged 4).toNat = p.cap := (congrArg BitVec.toNat (ht 4)).trans (lowOf_toNat (by omega))
  have h5 : (t.staged 5).toNat = p.deadline := (congrArg BitVec.toNat (ht 5)).trans (lowOf_toNat hdeadline)
  rw [State.profileFields, State.refusesProfile, h0, h1, h2, h3, h4, h5]
  obtain ⟨c, m, b, l, v, k, d⟩ := p
  cases c <;> cases m <;> simp_all <;> omega

/-- READ_PROFILE copies the image of the profile its argument names, and completes. -/
theorem exec_readProfile {s : State} {i : Initiator} (hr : s.rstN = true) (hi : s.management.argument.toNat = i) :
    exec .readProfile s = .next ((s.setStaging ((s.profile i).image (s.remaining i))).complete 0x23 .done) := by
  refine (next_of_high hr State.commandReadProfile).trans (congrArg Host.Outcome.next ?_)
  rw [State.commandReadProfile, withArgument_of_lt s 4 _ _ i hi]
  rfl

/-- Settles O35: each word of the image is a field that fits in it, and the fields read back from the image are those of the profile. -/
theorem readProfileCopies : Obligations.ReadProfileCopies := by
  intro i s hr hi hconfig hremaining
  obtain ⟨hprofiles, -⟩ := hconfig
  have hrange : (s.profile i).InRange := hprofiles i
  have hexec := exec_readProfile hr hi
  have hcompletes : s.Completes ((s.setStaging ((s.profile i).image (s.remaining i))).complete 0x23 .done) 0x23 .done :=
    complete_completes rfl _ _
  have hframe := frame_trans (setStaging_frame s ((s.profile i).image (s.remaining i))) (complete_frame _ 0x23 .done)
  have hstaged : ∀ k, ((s.setStaging ((s.profile i).image (s.remaining i))).complete 0x23 .done).staged k =
      ((s.profile i).image (s.remaining i))[k] := fun k => by rw [complete_of_done]; rfl
  have hprofile := profile_complete (s.setStaging ((s.profile i).image (s.remaining i))) 0x23 .done
  have hargument : ((s.setStaging ((s.profile i).image (s.remaining i))).complete 0x23 .done).management.argument = s.management.argument := by
    rw [complete_of_done]; rfl
  have hhigh : ((s.setStaging ((s.profile i).image (s.remaining i))).complete 0x23 .done).rstN = true := by
    rw [complete_of_done]; exact hr
  generalize (s.setStaging ((s.profile i).image (s.remaining i))).complete 0x23 .done = t at *
  obtain ⟨hfields, haccepted⟩ := profileFields_of_image hrange hstaged
  obtain ⟨hcodes, h6, h7⟩ : (t.staged 0).toNat = (lowOf ((s.profile i).cls.code + (s.profile i).mode.code * 256)).toNat ∧
      t.staged 6 = lowOf (s.remaining i) ∧ t.staged 7 = highOf (s.remaining i) := ⟨by rw [hstaged]; rfl, hstaged 6, hstaged 7⟩
  refine ⟨t, hexec, hcompletes, hcodes.trans (codes_toNat _ _), congrArg Profile.budget hfields, congrArg Profile.carryLimit hfields,
    congrArg Profile.reserved hfields, congrArg Profile.cap hfields, congrArg Profile.deadline hfields, ?_, hframe,
    _, exec_writeProfile_of_accepted hhigh (by rw [hargument, hi]) (stagedProfile_of_accepted haccepted), ?_, fun j => ?_⟩
  · rw [h6, h7, highOf_lowOf (by omega)]
  · exact (complete_completes (s := (t.withProfile i t.profileFields).recheck) rfl 0x22 .done).2.1
  · rw [profile_of_commit, hfields]
    by_cases hij : i = j
    · rw [if_pos hij, hij]
    · rw [if_neg hij, hprofile]
      rfl

end Sys2Proof.Machine
end

section
/-!
What a grant does to the tracker, the ports and the monitor (R6 to R8, R64), and O25.
-/

namespace Sys2Proof.Machine

/-! ### A head arrives, and the heads are re-checked (R53, R60, R64) -/

/-- A port whose head status is true is left by its check. -/
theorem State.HeadTrue.afterCheck {s : State} {i : Initiator} (h : s.HeadTrue i) : s.afterCheck i (s.view i) = s.view i := by
  obtain ⟨hfront, hhead⟩ := h
  rw [afterCheck_of_stays hfront, view_queue, ← hhead]
  rfl

/-- Nor does its check report anything. -/
theorem State.HeadTrue.silent {s : State} {i : Initiator} (h : s.HeadTrue i) :
    s.refusalReports i (s.view i) = [] ∧ s.entersBudgetWait i (s.view i) = false := by
  constructor
  · rw [State.refusalReports, view_queue, h.1]
    rfl
  · rw [State.entersBudgetWait, h.afterCheck, view_queue, h.1]
    simp

/-- What the initiators' reports `f` amount to is what those of `i` do, and what the others do, which are those of `g`. -/
theorem takenBy_flatMap (s : State) {f g : Initiator → List Report} {i : Initiator} (hi : g i = []) (hg : ∀ j, j ≠ i → g j = f j)
    (c : CounterIdx) : s.takenBy (initiators.flatMap f) c = s.takenBy (f i) c + s.takenBy (initiators.flatMap g) c := by
  have hsum : ∀ (l : List Initiator) (g : Initiator → List Report), s.takenBy (l.flatMap g) c = (l.map fun j => s.takenBy (g j) c).sum := by
    intro l g
    induction l with
    | nil => exact takenBy_nil s c
    | cons j l ih => rw [List.flatMap_cons, takenBy_append, ih, List.map_cons, List.sum_cons]
  have hsplit : ∀ j, s.takenBy (f j) c = (if j = i then s.takenBy (f i) c else 0) + s.takenBy (g j) c := fun j => by
    by_cases hij : j = i
    · rw [if_pos hij, hij, hi, takenBy_nil, Nat.add_zero]
    · rw [if_neg hij, hg j hij, Nat.zero_add]
  rw [hsum, hsum, List.map_congr_left fun j _ => hsplit j, List.sum_map_add]
  congr 1
  exact (Fin.sum_univ_def _).symm.trans (Fintype.sum_ite_eq' i _)

/-- What a re-check reports of the head of initiator `i`, if there is one (R60, R61). -/
def State.recheckReports (s : State) (i : Initiator) : List Report := if s.head i ≠ .noHead then s.refusalReports i (s.view i) else []

/-- A head arrival at a port with a head that does not wait for BUDGET, followed by a re-check, is one check of every head. -/
theorem headArrives_recheck_checksPorts {s : State} {i : Initiator} (hi : s.head i ≠ .noHead) (hb : s.head i ≠ .waiting .budget) :
    ChecksPorts s (s.headArrives i).recheck initiators := by
  have hv := (headArrives_onlyHeads s i).verdict
  have htrue : (s.headArrives i).HeadTrue i := headTrue_headArrives fun h => absurd rfl h
  obtain ⟨hself, hother, hflag, htally⟩ : ChecksPort s (s.headArrives i) i ((s.view i).withStatus .noHead) :=
    checkQueue_checksPort i _ .noHead s rfl
  obtain ⟨hview', hflag', htally'⟩ := recheck_checksPorts (s.headArrives i)
  have henters : s.entersBudgetWait i ((s.view i).withStatus .noHead) = s.entersBudgetWait i (s.view i) := by
    rw [entersBudgetWait_eq (.inl HeadStatus.noConfusion), entersBudgetWait_eq (.inl hb), afterCheck_withStatus]
  have hhead : ∀ j, i ≠ j → (s.headArrives i).head j = s.head j := fun j hij => congrArg PortView.status (hother j hij)
  generalize s.headArrives i = u at *
  refine ⟨fun j => ?_, ?_, fun hm => ?_⟩
  · rw [hview']
    by_cases hij : i = j
    · subst hij
      rw [htrue.afterCheck, ite_self, hself, if_pos ⟨mem_initiators i, hi⟩, afterCheck_withStatus]
    · rw [hother j hij, hhead j hij, afterCheck_congr hv]
  · rw [hflag', hflag, henters, Bool.or_assoc]
    congr 1
    rw [Bool.eq_iff_iff, Bool.or_eq_true, List.any_eq_true, List.any_eq_true]
    constructor
    · rintro (he | ⟨j, hj, hjc⟩)
      · exact ⟨i, mem_initiators i, by rw [he, decide_eq_true hi]; rfl⟩
      · by_cases hij : i = j
        · rw [← hij, htrue.silent.2, Bool.and_false] at hjc
          cases hjc
        · rw [hother j hij, hhead j hij, entersBudgetWait_congr hv] at hjc
          exact ⟨j, hj, hjc⟩
    · rintro ⟨j, hj, hjc⟩
      by_cases hij : i = j
      · subst hij
        exact .inl (Bool.and_eq_true_iff.mp hjc).2
      · exact .inr ⟨j, hj, by rwa [hother j hij, hhead j hij, entersBudgetWait_congr hv]⟩
  · have hu := htally hm
    refine (hu.trans (htally' (hu.mayFreeze hm))).congr fun c => ?_
    have hsilent : u.recheckReports i = [] := by rw [State.recheckReports, htrue.silent.1, ite_self]
    have hsame : ∀ j, j ≠ i → u.recheckReports j = s.recheckReports j := fun j hij => by
      rw [State.recheckReports, State.recheckReports, hother j (Ne.symm hij), hhead j (Ne.symm hij), refusalReports_congr hv]
    have hown : s.recheckReports i = s.refusalReports i (s.view i) := if_pos hi
    rw [hu.takenBy, refusalReports_withStatus, ← hown]
    exact (takenBy_flatMap s hsilent hsame c).symm

/-! ### The winner's head (R62, R63) -/

/-- A head passes only through a window that holds its line, and by the quota rule (R54). -/
theorem of_verdict_pass {s : State} {i : Initiator} {r : Request} (h : s.verdict i r = .pass) :
    (∃ w, s.lookup (lineOf r.address) = some w) ∧ s.quotaAllows i = true := by
  unfold State.verdict at h
  split at h
  · cases h
  · rename_i w hw
    refine ⟨⟨w, hw⟩, ?_⟩
    split at h
    · cases h
    · split at h
      · cases h
      · cases h
      · cases h
      · split at h
        · cases h
        · split at h
          · cases h
          · split at h
            · assumption
            · cases h
        · split at h
          · assumption
          · cases h

/-- The lowest FREE entry (R6). -/
theorem firstFree_eq_some_iff (s : State) (x : EntryIdx) : s.firstFree = some x ↔ s.entry x = none ∧ ∀ y, y < x → s.entry y ≠ none := by
  rw [State.firstFree, find?_eq_some_iff_least (pos := Fin.val) pairwise_entryIndices]
  simp only [mem_entryIndices, true_and, forall_true_left, Option.isNone_iff_eq_none]
  refine and_congr_right fun _ => forall_congr' fun y => ?_
  rw [← Fin.le_def, ← not_lt]
  exact imp_not_comm

/-- Where the quota rule allows an initiator an entry there is a FREE one (R58). -/
theorem exists_firstFree {s : State} {i : Initiator} (h : s.quotaAllows i = true) : ∃ x, s.firstFree = some x := by
  obtain ⟨-, hshare⟩ := (quotaAllows_iff s i).mp h
  have hfree : 1 ≤ s.freeCount := hshare.elim (by omega) And.right
  rw [← Option.isSome_iff_exists, Option.isSome_iff_ne_none]
  intro hnone
  have hall : entryIndices.countP (fun x => (s.entry x).isSome) = 64 := by
    rw [List.countP_eq_length.mpr fun x hx => ?_]
    · simp [entryIndices]
    · simpa [Option.isSome_iff_ne_none] using List.find?_eq_none.mp hnone x hx
  have hsum : (initiators.map s.inUse).sum = 64 := (sum_countP_initiator s entryIndices).trans hall
  have htotal := freeCount_add_inUse s
  omega

/-! ### The charge and the pointer (R62, R64 step 1, R88) -/

/-- The state with the winner's budget charged and the pointer of its class moved. -/
def State.charged (s : State) (i : Initiator) (beats : Nat) : State :=
  { s with
    admission := { s.admission with
      highPointer := if (s.profile i).cls = .high then i else s.admission.highPointer
      normalPointer := if (s.profile i).cls = .normal then i else s.admission.normalPointer }
    regulation := { s.regulation with
      remaining := if (s.profile i).mode = .metered then s.regulation.remaining.set i (s.remaining i - beats) else s.regulation.remaining } }

theorem movePointer_eq (s : State) (i : Initiator) : s.movePointer i = { s with admission := { s.admission with
    highPointer := if (s.profile i).cls = .high then i else s.admission.highPointer
    normalPointer := if (s.profile i).cls = .normal then i else s.admission.normalPointer } } := by
  unfold State.movePointer
  cases (s.profile i).cls <;> rfl

theorem charge_eq (s : State) (i : Initiator) (beats : Nat) : s.charge i beats = { s with regulation := { s.regulation with
    remaining := if (s.profile i).mode = .metered then s.regulation.remaining.set i (s.remaining i - beats) else s.regulation.remaining } } := by
  by_cases hm : (s.profile i).mode = .metered
  · rw [State.charge, if_pos hm, if_pos hm]
    rfl
  · rw [State.charge, if_neg hm, if_neg hm]

theorem charge_movePointer (s : State) (i : Initiator) (beats : Nat) : (s.movePointer i).charge i beats = s.charged i beats := by
  rw [charge_eq, movePointer_eq]
  rfl

theorem remaining_charged (s : State) (i j : Initiator) (beats : Nat) : (s.charged i beats).remaining j =
    if i = j ∧ (s.profile i).mode = .metered then s.remaining i - beats else s.remaining j := by
  by_cases hm : (s.profile i).mode = .metered
  · have hset : (s.charged i beats).regulation.remaining = s.regulation.remaining.set i (s.remaining i - beats) := if_pos hm
    rw [State.remaining, hset, set_get]
    simp only [hm, and_true]
    rfl
  · have hkept : (s.charged i beats).regulation.remaining = s.regulation.remaining := if_neg hm
    rw [State.remaining, hkept, if_neg fun h => hm h.2]
    rfl

theorem charged_frame (s : State) (i : Initiator) (beats : Nat) :
    s.Frame (s.charged i beats) [.remaining i, .highPointer, .normalPointer] := by
  refine ⟨rfl, fun p hp => ?_⟩
  cases p with
  | remaining j =>
    have hij : i ≠ j := by rintro rfl; exact hp List.mem_cons_self
    exact decide_eq_true (by rw [remaining_charged, if_neg fun h => hij h.1])
  | highPointer => exact absurd (by simp) hp
  | normalPointer => exact absurd (by simp) hp
  | histogramIndex => exact decide_eq_true ⟨rfl, rfl⟩
  | _ => exact decide_eq_true rfl

theorem allocate_frame (s : State) (x : EntryIdx) (i : Initiator) (r : Request) (w : WindowIdx) :
    s.Frame (s.allocate x i r w) Piece.ofClaim := by
  refine frame_strike (allocate_onlyClaims s x i r w).frame fun p hp => ?_
  obtain ⟨j, -, rfl⟩ := List.mem_map.mp hp
  simp [Piece.same, State.sentTo, allocate_links]

/-! ### The admission (R64) -/

/-- The winner's head leaves its queue and its credit is returned (R46). -/
def State.removeHead (s : State) (i : Initiator) (rest : List Request) : State :=
  (s.modPort i fun p => { p with queue := rest }).returnCredit i

theorem view_removeHead (s : State) (i j : Initiator) (rest : List Request) : (s.removeHead i rest).view j =
    if j = i then { queue := rest, granted := (s.port i).granted + 1, status := s.head i, sent := s.sentTo i ++ [.credit 1] } else s.view j := by
  have hhead : (s.removeHead i rest).head j = s.head j := rfl
  rw [State.view, hhead, State.removeHead, port_returnCredit, sentTo_returnCredit, port_modPort]
  by_cases hij : i = j
  · subst hij
    simp only [if_true]
    rfl
  · simp only [if_neg hij, if_neg (Ne.symm hij)]
    rfl

theorem removeHead_frame (s : State) (i : Initiator) (rest : List Request) :
    s.Frame (s.removeHead i rest) [.queue i, .granted i, .link i] := by
  have hcredit := modPort_frame (s.modPort i fun p => { p with queue := rest }) i (fun p => { p with granted := p.granted + 1 }) rfl
  refine frame_mono (frame_trans (frame_trans (modPort_frame s i (fun p => { p with queue := rest }) rfl) hcredit) (send_frame _ i (.credit 1)))
    fun p hp => ?_
  simp only [List.mem_append, List.mem_cons] at hp ⊢
  tauto

theorem admitHead_eq (s : State) (i : Initiator) (r : Request) (rest : List Request) (w : WindowIdx) (x : EntryIdx) :
    s.admitHead i r rest w x =
      (((s.charged i r.beats).allocate x i r w).removeHead i rest).report (admitReports i r (s.predecessorsOf r w ≠ [])) := by
  rw [State.admitHead, charge_movePointer]
  rfl

/-- What an admission leaves of the tracker, the issue queues, the ports and the monitor, so far as no check has followed. -/
structure Admits (s t : State) (i : Initiator) (r : Request) (rest : List Request) (w : WindowIdx) (x : EntryIdx) : Prop where
  entry : ∀ y, t.entry y = if y = x then some (newEntry s i r w (s.predecessorsOf r w))
    else if y ∈ s.predecessorsOf r w then (s.entry y).map (·.addSuccessor x) else s.entry y
  queueOf : ∀ c, t.target.queueOf c = s.target.queueOf c ++ if s.predecessorsOf r w = [] ∧ (s.profile i).cls = c then [x] else []
  view : ∀ j, t.view j =
    if j = i then { queue := rest, granted := (s.port i).granted + 1, status := s.head i, sent := s.sentTo i ++ [.credit 1] } else s.view j
  charged : t.admission = (s.charged i r.beats).admission ∧ t.regulation = (s.charged i r.beats).regulation
  budgetWait : t.flag .budgetWait = s.flag .budgetWait
  tallies : s.monitor.mayFreeze = false → Tallies s t (s.takenBy (admitReports i r (s.predecessorsOf r w ≠ [])))
  frame : s.Frame t ([.remaining i, .highPointer, .normalPointer] ++ Piece.ofClaim ++ Piece.ofRecheck)

theorem admitHead_admits (s : State) (i : Initiator) (r : Request) (rest : List Request) (w : WindowIdx) (x : EntryIdx) :
    Admits s (s.admitHead i r rest w x) i r rest w x := by
  have hclaim := allocate_onlyClaims (s.charged i r.beats) x i r w
  have hentry := entry_allocate (s.charged i r.beats) x i r w
  have hqueue := queueOf_allocate (s.charged i r.beats) x i r w
  have hlinks := allocate_links (s.charged i r.beats) x i r w
  have hframe := frame_trans (charged_frame s i r.beats) (allocate_frame (s.charged i r.beats) x i r w)
  rw [admitHead_eq]
  generalize (s.charged i r.beats).allocate x i r w = u at hclaim hentry hqueue hlinks hframe
  have hreport := report_onlyMonitor (u.removeHead i rest) (admitReports i r (s.predecessorsOf r w ≠ [])) none
  have hport : ∀ j, u.port j = s.port j := port_of_ports hclaim.ports
  have hhead : ∀ j, u.head j = s.head j := fun j => by rw [State.head, hclaim.admission]; rfl
  have hsent : ∀ j, u.sentTo j = s.sentTo j := fun j => by rw [State.sentTo, hlinks]; rfl
  have hmonitor : Tallies s (u.removeHead i rest) fun _ => 0 := .of_monitor hclaim.monitor
  refine ⟨fun y => ?_, fun c => ?_, fun j => ?_, ⟨?_, ?_⟩, ?_, fun hm => ?_, ?_⟩
  · rw [entry_of_tracker hreport.tracker]
    exact hentry y
  · rw [hreport.target]
    exact hqueue c
  · rw [view_of_onlyMonitor hreport, view_removeHead, hport, hhead, hsent]
    by_cases hij : j = i
    · rw [if_pos hij, if_pos hij]
    · rw [if_neg hij, if_neg hij]
      exact view_ext (by rw [hport]) (by rw [hport]) (hhead j) (hsent j)
  · exact hreport.admission.trans hclaim.admission
  · exact hreport.regulation.trans hclaim.regulation
  · exact (hreport.flag .budgetWait (by simp)).trans (flag_of_interrupts hclaim.interrupts _)
  · refine (hmonitor.trans (report_tallies _ _ (hmonitor.mayFreeze hm))).congr fun c => ?_
    rw [hmonitor.takenBy, Nat.zero_add]
  · refine frame_mono (frame_trans hframe (frame_trans (removeHead_frame u i rest) (report_frame _ _))) fun p hp => ?_
    have hmem := mem_initiators i
    simp only [Piece.ofRecheck, List.mem_append, List.mem_cons, List.mem_map] at hp ⊢
    rcases hp with hp | (rfl | rfl | rfl | hp) | hp
    · exact .inl hp
    · exact .inr (.inl (.inl (.inl (.inr ⟨i, hmem, rfl⟩))))
    · exact .inr (.inl (.inl (.inr ⟨i, hmem, rfl⟩)))
    · exact .inr (.inl (.inr ⟨i, hmem, rfl⟩))
    · cases hp
    · exact .inr (.inr (.inr hp))

/-! ### O25 -/

/-- The predecessors of a request: the conflicting entries of its target line, or none through an UNORDERED window (R7, R78). -/
theorem predecessorsOf_eq (s : State) (r : Request) (w : WindowIdx) : s.predecessorsOf r w =
    if s.windows[w].ordering = .unordered then [] else entryIndices.filter fun y => (s.entry y).any fun e =>
      lineOf e.targetAddress = lineOf (s.windows[w].remap r.address) && (e.op = .write || r.op = .write) := by
  unfold State.predecessorsOf State.predecessorsFor
  cases s.windows[w].ordering with
  | unordered => rfl
  | ordered =>
    rw [if_neg WindowOrdering.noConfusion]
    refine List.filter_congr fun y _ => ?_
    cases s.entry y with
    | none => rfl
    | some e =>
      rw [Option.any_some, Option.any_some, conflicts, Bool.or_comm]
      rfl

theorem ite_map_addSuccessor (p : Prop) [Decidable p] (x : EntryIdx) (o : Option Entry) :
    (if p then o.map (·.addSuccessor x) else o) =
      o.map fun e => if p then { e with successors := insertAscending x e.successors } else e := by
  split
  · rfl
  · exact Option.map_id'.symm

theorem append_ite_nil {α : Type} (p : Prop) [Decidable p] (l : List α) (x : α) :
    (l ++ if p then [x] else []) = if p then l ++ [x] else l := by
  split
  · rfl
  · exact List.append_nil l

theorem admitReports_eq (i : Initiator) (r : Request) (ps : List EntryIdx) : admitReports i r (ps ≠ []) =
    [{ event := .admitted, initiator := i, qualifier := if r.op = .read then 1 else 2 },
      { event := .beatsAdmitted, initiator := i, qualifier := if r.op = .read then 1 else 2, amount := r.beats }] ++
      if ps = [] then [] else [{ event := .depWait, initiator := i }] := by
  have hqualifier : opQualifier r.op = if r.op = .read then 1 else 2 := by cases r.op <;> rfl
  rw [admitReports, hqualifier]
  by_cases hp : ps = [] <;> simp [hp]

/-- A grant with a winner, its window and the lowest FREE entry. -/
theorem grant_of_winner {s : State} {i : Initiator} {r : Request} {rest : List Request} {w : WindowIdx} {x : EntryIdx}
    (hw : s.grantWinner = some i) (hq : (s.port i).queue = r :: rest) (hl : s.lookup (lineOf r.address) = some w) (hf : s.firstFree = some x) :
    s.grant = ((s.admitHead i r rest w x).headArrives i).recheck := by
  simp only [State.grant, hw, hq, hl, hf]

/-- Settles O25: the winner's head passes, so a window holds its line and an entry is FREE; the admission fills the entry, and the arrival
of the next head with the re-check is one check of every head. -/
theorem grantAdmitsHead : Obligations.GrantAdmitsHead := by
  refine fun s hr => ⟨fun hnone => ?_, fun i hwinner r hhead => ?_⟩
  · refine (next_of_high hr State.grant).trans (congrArg Host.Outcome.next ?_)
    simp only [State.grant, hnone]
  obtain ⟨rest, hq⟩ : ∃ rest, (s.port i).queue = r :: rest := List.head?_eq_some_iff.mp hhead
  obtain ⟨heligible, r', hr', hpass⟩ := (candidate_iff s i).mp (candidate_of_grantWinner hwinner)
  cases hr'.symm.trans hhead
  obtain ⟨⟨w, hw⟩, hquota⟩ := of_verdict_pass hpass
  obtain ⟨x, hx⟩ := exists_firstFree hquota
  obtain ⟨hfree, hlow⟩ := (firstFree_eq_some_iff s x).mp hx
  have hnext := (next_of_high hr State.grant).trans (congrArg Host.Outcome.next (grant_of_winner hwinner hq hw hx))
  have hadmits := admitHead_admits s i r rest w x
  generalize s.admitHead i r rest w x = u at hnext hadmits
  have hstatus : u.head i = .eligible :=
    (congrArg PortView.status (hadmits.view i)).trans ((congrArg PortView.status (if_pos rfl)).trans heligible)
  have hports := headArrives_recheck_checksPorts (s := u) (i := i) (by simp [hstatus]) (by simp [hstatus])
  have honly := (headArrives_onlyHeads u i).trans (recheck_onlyHeads _)
  generalize (u.headArrives i).recheck = t at hnext hports honly
  have hchecks := checks_of_checksPorts honly hports hadmits.budgetWait hadmits.tallies
  have hview : u.view = fun j => if j = i then
      { queue := (s.port i).queue.tail, granted := (s.port i).granted + 1, status := .eligible, sent := s.sentTo i ++ [.credit 1] }
      else s.view j := funext fun j => by rw [hadmits.view, hq, heligible]; rfl
  have hentry : ∀ y, t.entry y = _ := fun y => (entry_of_tracker honly.tracker y).trans (hadmits.entry y)
  have hqueue : ∀ c, t.target.queueOf c = _ := fun c => (congrArg (·.queueOf c) honly.target).trans (hadmits.queueOf c)
  rw [hview, admitReports_eq] at hchecks
  simp only [predecessorsOf_eq] at hchecks hentry hqueue
  refine ⟨w, x, t, hw, hfree, hlow, hnext, ⟨(hentry x).trans (if_pos rfl), fun y hy => ?_, ?_, ?_, hchecks⟩, ?_, ?_, ?_, ?_⟩
  · rw [hentry, if_neg hy]
    exact ite_map_addSuccessor _ x _
  · exact (hqueue .high).trans (append_ite_nil _ _ x)
  · exact (hqueue .normal).trans (append_ite_nil _ _ x)
  · rw [State.remaining, honly.regulation, hadmits.charged.2]
    exact (remaining_charged s i i r.beats).trans (by simp)
  · rw [honly.highPointer, hadmits.charged.1]
    rfl
  · rw [honly.normalPointer, hadmits.charged.1]
    rfl
  · refine frame_mono (frame_trans hadmits.frame honly.frame) fun p hp => ?_
    simp only [List.mem_append] at hp ⊢
    tauto

end Sys2Proof.Machine
end

section
/-!
The staged window record and its image (R69, R71, R73, R188), and O32 and O33.
-/

namespace Sys2Proof.Machine

/-! ### The codes of the staging area (R188) -/

theorem enabledOfCode_eq_some_iff {n : Nat} {b : Bool} : enabledOfCode n = some b ↔ n = b.toNat := by
  constructor
  · intro h
    unfold enabledOfCode at h
    split at h <;> cases h <;> rfl
  · rintro rfl
    cases b <;> rfl

theorem orderingOfCode_eq_some_iff {n : Nat} {o : WindowOrdering} : orderingOfCode n = some o ↔ n = o.code := by
  constructor
  · intro h
    unfold orderingOfCode at h
    split at h <;> cases h <;> rfl
  · rintro rfl
    cases o <;> rfl

theorem rightOfCode_eq_some_iff {n : Nat} {r : Right} : rightOfCode n = some r ↔ n = r.code := by
  constructor
  · intro h
    unfold rightOfCode at h
    split at h <;> cases h <;> rfl
  · rintro rfl
    cases r <;> rfl

theorem WindowOrdering.code_lt (o : WindowOrdering) : o.code < 2 := by cases o <;> decide

theorem Right.code_lt (r : Right) : r.code < 4 := by cases r <;> decide

theorem exists_enabled {n : Nat} (h : n ≤ 1) : ∃ b : Bool, n = b.toNat := by
  obtain rfl | rfl : n = 0 ∨ n = 1 := by omega
  · exact ⟨false, rfl⟩
  · exact ⟨true, rfl⟩

theorem exists_ordering {n : Nat} (h : n ≤ 1) : ∃ o : WindowOrdering, n = o.code := by
  obtain rfl | rfl : n = 0 ∨ n = 1 := by omega
  · exact ⟨.ordered, rfl⟩
  · exact ⟨.unordered, rfl⟩

theorem exists_right {n : Nat} (h : n ≤ 3) : ∃ r : Right, n = r.code := by
  obtain rfl | rfl | rfl | rfl : n = 0 ∨ n = 1 ∨ n = 2 ∨ n = 3 := by omega
  · exact ⟨.none, rfl⟩
  · exact ⟨.read, rfl⟩
  · exact ⟨.write, rfl⟩
  · exact ⟨.readWrite, rfl⟩

/-- A word is its two bytes. -/
theorem toNat_eq_bytes (w : Word) : w.toNat = bits w 0 8 + bits w 8 8 * 256 := by
  rw [bits_low, bits_high]
  omega

/-- A word is its four digits of 4 bits. -/
theorem toNat_eq_digits (w : Word) : w.toNat = bits w 0 4 + bits w 4 4 * 16 + bits w 8 4 * 256 + bits w 12 4 * 4096 := by
  have hw := w.isLt
  simp only [bits]
  omega

theorem bits_topDigit (w : Word) : bits w 12 4 = w.toNat / 4096 := by
  have hw := w.isLt
  simp only [bits]
  omega

theorem lowOf_toNat_word (w : Word) : lowOf w.toNat = w := BitVec.eq_of_toNat_eq (lowOf_toNat (Nat.le_of_lt_succ w.isLt))

theorem lowOf_line (hi lo : Word) : lowOf (hi.toNat * 65536 + lo.toNat) = lo := by
  have hlo := lo.isLt
  refine BitVec.eq_of_toNat_eq ?_
  rw [lowOf, BitVec.toNat_ofNat]
  omega

theorem highOf_line (hi lo : Word) : highOf (hi.toNat * 65536 + lo.toNat) = hi := by
  have hhi := hi.isLt
  have hlo := lo.isLt
  refine BitVec.eq_of_toNat_eq ?_
  rw [highOf, BitVec.toNat_ofNat]
  omega

/-- The word of two bytes gives them back. -/
theorem bits_bytes {a b : Nat} (ha : a < 256) (hb : b < 256) : bits (lowOf (a + b * 256)) 0 8 = a ∧ bits (lowOf (a + b * 256)) 8 8 = b := by
  rw [bits_low, bits_high, lowOf_toNat (by omega)]
  omega

/-- The word of four digits of 4 bits gives them back. -/
theorem bits_digits {a b c d : Nat} (ha : a < 16) (hb : b < 16) (hc : c < 16) (hd : d < 16) :
    bits (lowOf (a + b * 16 + c * 256 + d * 4096)) 0 4 = a ∧ bits (lowOf (a + b * 16 + c * 256 + d * 4096)) 4 4 = b ∧
      bits (lowOf (a + b * 16 + c * 256 + d * 4096)) 8 4 = c ∧ bits (lowOf (a + b * 16 + c * 256 + d * 4096)) 12 4 = d := by
  simp only [bits, lowOf_toNat (n := a + b * 16 + c * 256 + d * 4096) (by omega)]
  omega

/-! ### The staged record (R71, R188) -/

/-- The line of two staged words, the high one first (R188). -/
def State.stagedLine (s : State) (hi lo : Fin 8) : Nat := (s.staged hi).toNat * 65536 + (s.staged lo).toNat

/-- The staging area holds the fields of the record, each where R188 places it. -/
structure State.Stages (s : State) (v : Window) : Prop where
  enabled : bits (s.staged 0) 0 8 = v.enabled.toNat
  ordering : bits (s.staged 0) 8 8 = v.ordering.code
  right0 : bits (s.staged 1) 0 4 = v.rights[0].code
  right1 : bits (s.staged 1) 4 4 = v.rights[1].code
  right2 : bits (s.staged 1) 8 4 = v.rights[2].code
  right3 : bits (s.staged 1) 12 4 = v.rights[3].code
  baseLine : s.stagedLine 3 2 = v.baseLine
  limitLine : s.stagedLine 5 4 = v.limitLine
  remapLine : s.stagedLine 7 6 = v.remapLine

/-- The bounds of a record, in numbers (R69). -/
theorem withinBounds_iff (v : Window) : v.withinBounds = true ↔ v.baseLine ≤ 67108863 ∧ v.limitLine ≤ 67108863 ∧
    v.remapLine ≤ 67108863 ∧ v.baseLine ≤ v.limitLine ∧ v.remapLine + v.limitLine - v.baseLine ≤ 67108863 := by
  have hmax : Config.maxLine = 67108863 := rfl
  simp only [Window.withinBounds, Bool.and_eq_true, decide_eq_true_eq]
  omega

/-- The staged record that passes the checks of R71 is the one within its bounds that the staging area holds. -/
theorem stagedWindow_eq_some_iff {s : State} {v : Window} : s.stagedWindow = some v ↔ v.withinBounds = true ∧ s.Stages v := by
  constructor
  · intro h
    refine ⟨stagedWindow_withinBounds h, ?_⟩
    unfold State.stagedWindow at h
    split at h
    case h_1 hen ho h0 h1 h2 h3 =>
      obtain ⟨-, h⟩ := Option.ite_none_right_eq_some.mp h
      cases h
      exact ⟨enabledOfCode_eq_some_iff.mp hen, orderingOfCode_eq_some_iff.mp ho, rightOfCode_eq_some_iff.mp h0,
        rightOfCode_eq_some_iff.mp h1, rightOfCode_eq_some_iff.mp h2, rightOfCode_eq_some_iff.mp h3, rfl, rfl, rfl⟩
    case h_2 => cases h
  · rintro ⟨hbounds, h⟩
    have hrights : #v[v.rights[0], v.rights[1], v.rights[2], v.rights[3]] = v.rights :=
      vector_ext_fin fun i => match i with | 0 => rfl | 1 => rfl | 2 => rfl | 3 => rfl
    have hbase := h.baseLine
    have hlimit := h.limitLine
    have hremap := h.remapLine
    unfold State.stagedLine at hbase hlimit hremap
    simp only [State.stagedWindow, enabledOfCode_eq_some_iff.mpr h.enabled, orderingOfCode_eq_some_iff.mpr h.ordering,
      rightOfCode_eq_some_iff.mpr h.right0, rightOfCode_eq_some_iff.mpr h.right1, rightOfCode_eq_some_iff.mpr h.right2,
      rightOfCode_eq_some_iff.mpr h.right3, hrights, hbase, hlimit, hremap]
    exact if_pos hbounds

/-- What the staging area holds is the image of the record (R73). -/
theorem State.Stages.image {s : State} {v : Window} (h : s.Stages v) : v.image = s.management.staging := by
  refine vector_ext_fin fun k => ?_
  change v.image[k] = s.staged k
  match k with
  | 0 => exact (congrArg lowOf (by rw [toNat_eq_bytes, h.enabled, h.ordering])).trans (lowOf_toNat_word _)
  | 1 => exact (congrArg lowOf (by rw [toNat_eq_digits, h.right0, h.right1, h.right2, h.right3])).trans (lowOf_toNat_word _)
  | 2 => exact (congrArg lowOf h.baseLine.symm).trans (lowOf_line _ _)
  | 3 => exact (congrArg highOf h.baseLine.symm).trans (highOf_line _ _)
  | 4 => exact (congrArg lowOf h.limitLine.symm).trans (lowOf_line _ _)
  | 5 => exact (congrArg highOf h.limitLine.symm).trans (highOf_line _ _)
  | 6 => exact (congrArg lowOf h.remapLine.symm).trans (lowOf_line _ _)
  | 7 => exact (congrArg highOf h.remapLine.symm).trans (highOf_line _ _)

/-- An area that is the image of a record within its bounds holds that record (R73). -/
theorem stages_of_image {s : State} {v : Window} (hb : v.withinBounds = true) (hs : ∀ k, s.staged k = v.image[k]) : s.Stages v := by
  obtain ⟨hbase, hlimit, hremap, -⟩ := (withinBounds_iff v).mp hb
  have h0 : s.staged 0 = lowOf (v.enabled.toNat + v.ordering.code * 256) := hs 0
  have h1 : s.staged 1 =
    lowOf (v.rights[0].code + v.rights[1].code * 16 + v.rights[2].code * 256 + v.rights[3].code * 4096) := hs 1
  have hright : ∀ r : Right, r.code < 16 := fun r => r.code_lt.trans (by decide)
  obtain ⟨hen, hord⟩ := bits_bytes (v.enabled.toNat_lt.trans (by decide)) (v.ordering.code_lt.trans (by decide))
  obtain ⟨hr0, hr1, hr2, hr3⟩ := bits_digits (hright v.rights[0]) (hright v.rights[1]) (hright v.rights[2]) (hright v.rights[3])
  have hlines : ∀ {hi lo : Fin 8} {n : Nat}, s.staged hi = highOf n → s.staged lo = lowOf n → n ≤ 67108863 →
      s.stagedLine hi lo = n := fun hhi hlo hn => by
    rw [State.stagedLine, hhi, hlo, highOf_lowOf (by omega)]
  rw [← h0] at hen hord
  rw [← h1] at hr0 hr1 hr2 hr3
  exact ⟨hen, hord, hr0, hr1, hr2, hr3, hlines (hs 3) (hs 2) hbase, hlines (hs 5) (hs 4) hlimit, hlines (hs 7) (hs 6) hremap⟩

/-- A staged record that R71 refuses: an undefined code, a line above the last one, a limit below its base, or a remapped range past
the top. -/
def State.refusesWindow (s : State) : Prop :=
  1 < (s.staged 0).toNat % 256 ∨ 1 < (s.staged 0).toNat / 256 ∨
    3 < (s.staged 1).toNat % 16 ∨ 3 < (s.staged 1).toNat / 16 % 16 ∨ 3 < (s.staged 1).toNat / 256 % 16 ∨ 3 < (s.staged 1).toNat / 4096 ∨
    67108863 < s.stagedLine 3 2 ∨ 67108863 < s.stagedLine 5 4 ∨ 67108863 < s.stagedLine 7 6 ∨ s.stagedLine 5 4 < s.stagedLine 3 2 ∨
    67108863 < s.stagedLine 7 6 + s.stagedLine 5 4 - s.stagedLine 3 2

theorem stagedWindow_of_refused {s : State} (h : s.refusesWindow) : s.stagedWindow = none := by
  rw [Option.eq_none_iff_forall_ne_some]
  intro v hv
  obtain ⟨hbounds, hen, hord, hr0, hr1, hr2, hr3, hbase, hlimit, hremap⟩ := stagedWindow_eq_some_iff.mp hv
  rw [withinBounds_iff, ← hbase, ← hlimit, ← hremap] at hbounds
  rw [bits_low] at hen
  rw [bits_high] at hord
  rw [bits_topDigit] at hr3
  simp only [bits] at hr0 hr1 hr2
  have hcodes := And.intro v.enabled.toNat_lt v.ordering.code_lt
  have hrights := And.intro (And.intro v.rights[0].code_lt v.rights[1].code_lt) (And.intro v.rights[2].code_lt v.rights[3].code_lt)
  unfold State.refusesWindow at h
  omega

theorem stagedWindow_of_accepted {s : State} (h : ¬s.refusesWindow) : ∃ v, s.stagedWindow = some v := by
  simp only [State.refusesWindow, not_or, not_lt] at h
  obtain ⟨hen, hord, hr0, hr1, hr2, hr3, hlines⟩ := h
  obtain ⟨en, hen⟩ := exists_enabled ((bits_low _).trans_le hen)
  obtain ⟨o, hord⟩ := exists_ordering ((bits_high _).trans_le hord)
  obtain ⟨r0, hr0⟩ := exists_right (n := bits (s.staged 1) 0 4) (by simpa [bits] using hr0)
  obtain ⟨r1, hr1⟩ := exists_right (n := bits (s.staged 1) 4 4) (by simpa [bits] using hr1)
  obtain ⟨r2, hr2⟩ := exists_right (n := bits (s.staged 1) 8 4) (by simpa [bits] using hr2)
  obtain ⟨r3, hr3⟩ := exists_right ((bits_topDigit _).trans_le hr3)
  exact ⟨{ enabled := en, ordering := o, rights := #v[r0, r1, r2, r3], baseLine := _, limitLine := _, remapLine := _ },
    stagedWindow_eq_some_iff.mpr ⟨(withinBounds_iff _).mpr hlines, hen, hord, hr0, hr1, hr2, hr3, rfl, rfl, rfl⟩⟩

/-! ### How a commit ends (R72, R188, R190) -/

/-- A refused commit: INVALID, CONFIG_ERROR and no other change. -/
theorem refuse_completes (s : State) (code : Word) :
    s.Completes ((s.raise .configError).complete code .invalid) code .invalid ∧
      ((s.raise .configError).complete code .invalid).flag .configError = true ∧
      s.Frame ((s.raise .configError).complete code .invalid) (.flag .configError :: Piece.ofCommand) := by
  have hkept := of_decide_eq_true ((complete_frame (s.raise .configError) code .invalid).2 (.flag .configError) (by simp [Piece.ofCommand]))
  refine ⟨complete_completes ?_ _ _, ?_, frame_trans (raise_frame s .configError) (complete_frame _ _ _)⟩
  · rw [flag_raise, decide_eq_false (by simp), Bool.or_false]
  · rw [hkept, flag_raise, decide_eq_true rfl, Bool.or_true]

/-- A commit of what no port, no flag and no counter holds: DONE, and the heads are checked again. -/
theorem recheck_completes {s u : State} {changed : List Piece} (code : Word) (hview : u.view = s.view)
    (hflags : u.interrupts = s.interrupts) (hmonitor : u.monitor = s.monitor) (hframe : s.Frame u changed) :
    s.Completes (u.recheck.complete code .done) code .done ∧ s.Checks (u.recheck.complete code .done) true s.view ∧
      s.Frame (u.recheck.complete code .done) (changed ++ (Piece.ofRecheck ++ Piece.ofCommand)) := by
  have honly := recheck_onlyHeads u
  have hchecks : s.Checks u.recheck true s.view := checks_of_calm hview (flag_of_interrupts hflags _) hmonitor
  refine ⟨complete_completes ?_ _ _, ?_, frame_trans hframe (frame_trans honly.frame (complete_frame _ _ _))⟩
  · exact (honly.flag .commandRefused (by simp) (by simp)).trans (flag_of_interrupts hflags _)
  · rw [complete_of_done]
    generalize u.recheck = t at hchecks
    exact checks_congr hchecks rfl (verdict_congr rfl rfl rfl rfl rfl) rfl rfl

/-! ### WRITE_WINDOW (R71, R72) -/

/-- The state with record `w` replaced. -/
def State.withWindow (s : State) (w : WindowIdx) (v : Window) : State := { s with windows := s.windows.set w v }

theorem windows_withWindow (s : State) (w x : WindowIdx) (v : Window) :
    (s.withWindow w v).windows[x] = if w = x then v else s.windows[x] := set_get _ w x v

theorem withWindow_frame (s : State) (w : WindowIdx) (v : Window) : s.Frame (s.withWindow w v) [.window w] := by
  refine ⟨rfl, fun p hp => ?_⟩
  cases p with
  | window x =>
    have hwx : w ≠ x := by rintro rfl; exact hp (List.mem_singleton_self _)
    exact decide_eq_true (by rw [windows_withWindow, if_neg hwx])
  | histogramIndex => exact decide_eq_true ⟨rfl, rfl⟩
  | _ => exact decide_eq_true rfl

section
variable {s : State} {w : WindowIdx} (hr : s.rstN = true) (hw : s.management.argument.toNat = w)
include hr hw

theorem exec_writeWindow_of_refused (h : s.stagedWindow = none) :
    exec .writeWindow s = .next ((s.raise .configError).complete 0x20 .invalid) := by
  refine (next_of_high hr State.commandWriteWindow).trans (congrArg Host.Outcome.next ?_)
  rw [State.commandWriteWindow, withArgument_of_lt s 8 _ _ w hw, State.commitWindow, h]
  rfl

theorem exec_writeWindow_of_accepted {v : Window} (h : s.stagedWindow = some v) :
    exec .writeWindow s = .next ((s.withWindow w v).recheck.complete 0x20 .done) := by
  refine (next_of_high hr State.commandWriteWindow).trans (congrArg Host.Outcome.next ?_)
  rw [State.commandWriteWindow, withArgument_of_lt s 8 _ _ w hw, State.commitWindow, h]
  rfl

/-- READ_WINDOW copies the image of the record its argument names, and completes (R73). -/
theorem exec_readWindow : exec .readWindow s = .next ((s.setStaging s.windows[w].image).complete 0x21 .done) := by
  refine (next_of_high hr State.commandReadWindow).trans (congrArg Host.Outcome.next ?_)
  rw [State.commandReadWindow, withArgument_of_lt s 8 _ _ w hw]
  rfl

end

/-- A commit completed leaves the record as it wrote it. -/
theorem windows_of_commit (s : State) (w : WindowIdx) (v : Window) :
    ((s.withWindow w v).recheck.complete 0x20 .done).windows[w] = v := by
  have hwindows : ((s.withWindow w v).recheck.complete 0x20 .done).windows = (s.withWindow w v).windows := by
    rw [complete_of_done]
    exact (recheck_onlyHeads _).windows
  rw [hwindows, windows_withWindow, if_pos rfl]

/-- Settles O32: the staged fields decide; a refusal is a flag and a status, and the record committed is the one whose image is staged. -/
theorem writeWindowCommits : Obligations.WriteWindowCommits := by
  intro w s hr hw
  refine ⟨fun hbad => ?_, fun hgood => ?_⟩
  · exact ⟨_, exec_writeWindow_of_refused hr hw (stagedWindow_of_refused hbad), refuse_completes s 0x20⟩
  · obtain ⟨v, hv⟩ := stagedWindow_of_accepted hgood
    obtain ⟨hbounds, hstages⟩ := stagedWindow_eq_some_iff.mp hv
    obtain ⟨hcompletes, hchecks, hframe⟩ := recheck_completes 0x20 (s := s) (u := s.withWindow w v) rfl rfl rfl (withWindow_frame s w v)
    exact ⟨v, _, hbounds, hstages.image, exec_writeWindow_of_accepted hr hw hv, hcompletes, windows_of_commit s w v, hchecks, hframe⟩

/-! ### READ_WINDOW (R73) -/

/-- The word of the enabled and ordering codes, in the words of the statement. -/
theorem State.Stages.codes {s : State} {v : Window} (h : s.Stages v) :
    (s.staged 0).toNat = (if v.enabled then 1 else 0) + (if v.ordering = .unordered then 256 else 0) := by
  rw [toNat_eq_bytes, h.enabled, h.ordering]
  cases v.enabled <;> cases v.ordering <;> rfl

/-- The word of the four rights. -/
theorem State.Stages.rights {s : State} {v : Window} (h : s.Stages v) : (s.staged 1).toNat =
    v.rights[0].code + 16 * v.rights[1].code + 256 * v.rights[2].code + 4096 * v.rights[3].code := by
  rw [toNat_eq_digits, h.right0, h.right1, h.right2, h.right3]
  omega

/-- Settles O33: the area holds the record read, and a commit takes the one record that the area holds. -/
theorem readWindowCopies : Obligations.ReadWindowCopies := by
  intro w v s hr hw hbounds
  have hexec := exec_readWindow hr hw
  have hcompletes : s.Completes ((s.setStaging s.windows[w].image).complete 0x21 .done) 0x21 .done := complete_completes rfl _ _
  have hframe := frame_trans (setStaging_frame s s.windows[w].image) (complete_frame _ 0x21 .done)
  have hstages : ((s.setStaging s.windows[w].image).complete 0x21 .done).Stages s.windows[w] :=
    stages_of_image hbounds fun k => by rw [complete_of_done]; rfl
  have hhigh : ((s.setStaging s.windows[w].image).complete 0x21 .done).rstN = true := by rw [complete_of_done]; exact hr
  generalize (s.setStaging s.windows[w].image).complete 0x21 .done = t at *
  have hargument : (t.writeArgument (BitVec.ofNat 16 v)).management.argument.toNat = v := by
    rw [State.writeArgument_argument, BitVec.toNat_ofNat]
    omega
  have hstaged : (t.writeArgument (BitVec.ofNat 16 v)).stagedWindow = some s.windows[w] :=
    stagedWindow_eq_some_iff.mpr ⟨hbounds, { hstages with }⟩
  refine ⟨t, hexec, hcompletes, ⟨hstages.codes, hstages.rights, hstages.baseLine, hstages.limitLine, hstages.remapLine⟩, hframe,
    _, exec_writeWindow_of_accepted (s := t.writeArgument (BitVec.ofNat 16 v)) hhigh hargument hstaged, ?_, windows_of_commit _ v _⟩
  rw [complete_of_done]

end Sys2Proof.Machine
end

section
/-!
The regulation unit: the refill at a period expiry and the reload of one budget (R84, R86, R87, R90), and O22 and O37.
-/

namespace Sys2Proof.Machine

/-! ### The reload of one budget (R90) -/

theorem setRemaining_frame (s : State) (i : Initiator) (n : Nat) : s.Frame (s.setRemaining i n) [.remaining i] := by
  refine ⟨rfl, fun p hp => ?_⟩
  cases p with
  | remaining j =>
    have hij : i ≠ j := by rintro rfl; exact hp (List.mem_singleton_self _)
    exact decide_eq_true (by rw [remaining_setRemaining, if_neg hij])
  | histogramIndex => exact decide_eq_true ⟨rfl, rfl⟩
  | _ => exact decide_eq_true rfl

/-- The checks of heads read the budgets and write none. -/
theorem remaining_recheck (s : State) (i : Initiator) : s.recheck.remaining i = s.remaining i := by
  rw [State.remaining, (recheck_onlyHeads s).regulation, State.remaining]

theorem exec_budgetReload {s : State} {i : Initiator} (hr : s.rstN = true) (hi : s.management.argument.toNat = i) :
    exec .budgetReload s = .next ((s.setRemaining i (s.profile i).budget).recheck.complete 0x30 .done) := by
  refine (next_of_high hr State.commandBudgetReload).trans (congrArg Host.Outcome.next ?_)
  rw [State.commandBudgetReload, withArgument_of_lt s 4 _ _ i hi]
  rfl

/-- Settles O37: one budget is set, and the re-check that follows leaves every budget. -/
theorem budgetReloadSetsBudget : Obligations.BudgetReloadSetsBudget := by
  intro i s hr hi
  obtain ⟨hcompletes, hchecks, hframe⟩ := recheck_completes 0x30 (s := s) (u := s.setRemaining i (s.profile i).budget) rfl rfl rfl
    (setRemaining_frame s i _)
  refine ⟨_, exec_budgetReload hr hi, hcompletes, ?_, hchecks, hframe⟩
  rw [complete_of_done]
  calc (s.setRemaining i (s.profile i).budget).recheck.remaining i
    _ = (s.setRemaining i (s.profile i).budget).remaining i := remaining_recheck _ i
    _ = (s.profile i).budget := by rw [remaining_setRemaining, if_pos rfl]

/-! ### The refill at a period expiry (R86, R87) -/

/-- The state in which the period begins again: the elapsed count at 0 and every METERED budget refilled, no head checked yet. -/
def State.beginPeriod (s : State) : State :=
  { s with regulation := { s.regulation with
      timer := some { ticks := 0 }, remaining := Vector.ofFn fun i => refilled (s.profile i) (s.remaining i) } }

/-- Some initiator is METERED, so that a refill is followed by a re-check (R87). -/
def State.anyMetered (s : State) : Bool := initiators.any fun i => (s.profile i).mode = .metered

theorem anyMetered_eq_false_iff (s : State) : s.anyMetered = false ↔ ∀ i, (s.profile i).mode ≠ .metered := by
  simp [State.anyMetered, mem_initiators]

theorem periodExpiry_of_due {s : State} (h : s.regulation.expiryDue = true) :
    s.periodExpiry = if s.anyMetered then s.beginPeriod.recheck else s.beginPeriod := if_pos h

theorem periodExpiry_of_not_due {s : State} (h : s.regulation.expiryDue = false) : s.periodExpiry = s :=
  if_neg (Bool.eq_false_iff.mp h)

theorem remaining_beginPeriod (s : State) (i : Initiator) : s.beginPeriod.remaining i =
    if (s.profile i).mode = .metered then (s.profile i).budget + min (s.remaining i) (s.profile i).carryLimit else s.remaining i :=
  ofFn_get _ i

theorem beginPeriod_frame (s : State) : s.Frame s.beginPeriod (.periodTimer :: initiators.map .remaining) := by
  refine ⟨rfl, fun p hp => ?_⟩
  cases p with
  | periodTimer => exact absurd List.mem_cons_self hp
  | remaining i => exact absurd (List.mem_cons_of_mem _ (List.mem_map_of_mem (mem_initiators i))) hp
  | histogramIndex => exact decide_eq_true ⟨rfl, rfl⟩
  | _ => exact decide_eq_true rfl

/-- Without a METERED initiator the count alone begins again. -/
theorem beginPeriod_frame_of_noneMetered {s : State} (h : ∀ i, (s.profile i).mode ≠ .metered) : s.Frame s.beginPeriod [.periodTimer] := by
  refine frame_strike (m := initiators.map .remaining) (beginPeriod_frame s) fun p hp => ?_
  obtain ⟨i, -, rfl⟩ := List.mem_map.mp hp
  exact decide_eq_true (by rw [remaining_beginPeriod, if_neg (h i)])

/-- An event that left the ports, BUDGET_WAIT and the monitor, and after which no head was checked. -/
theorem checks_of_unchecked {s u : State} (hview : u.view = s.view) (hflag : u.flag .budgetWait = s.flag .budgetWait)
    (hmonitor : u.monitor = s.monitor) : s.Checks u false s.view := by
  refine ⟨fun i => congrFun hview i, ?_, counts_of_tallies fun _ => ?_⟩
  · rw [hflag]
    simp
  · have hnone : initiators.flatMap (fun _ => ([] : List Report)) = [] := List.flatMap_eq_nil_iff.mpr fun _ _ => rfl
    exact (Tallies.of_monitor hmonitor).congr fun c => by simp [hnone, takenBy_nil]

/-- The expiry that is due, whether or not a METERED initiator makes the heads be checked. -/
theorem periodExpiry_refills {s : State} (h : s.regulation.expiryDue = true) :
    s.periodExpiry.regulation = s.beginPeriod.regulation ∧
      ((∀ i, (s.profile i).mode ≠ .metered) → s.Frame s.periodExpiry [.periodTimer]) ∧
      s.Checks s.periodExpiry s.anyMetered s.view ∧
      s.Frame s.periodExpiry (.periodTimer :: (initiators.map .remaining ++ Piece.ofRecheck)) := by
  rw [periodExpiry_of_due h]
  cases hm : s.anyMetered with
  | true =>
    have hmetered : ¬∀ i, (s.profile i).mode ≠ .metered := mt (anyMetered_eq_false_iff s).mpr (by simp [hm])
    have honly := recheck_onlyHeads s.beginPeriod
    exact ⟨honly.regulation, fun hnone => absurd hnone hmetered, checks_of_calm rfl rfl rfl,
      frame_trans (beginPeriod_frame s) honly.frame⟩
  | false =>
    have hframe := beginPeriod_frame_of_noneMetered ((anyMetered_eq_false_iff s).mp hm)
    exact ⟨rfl, fun _ => hframe, checks_of_unchecked rfl rfl rfl, frame_mono hframe (by simp)⟩

/-- Where the monitor owes no sample, the event is the expiry alone (log entry 3). -/
theorem exec_periodExpiry {s : State} (hr : s.rstN = true) (ho : s.sampleOwed = false) : exec .periodExpiry s = .next s.periodExpiry := by
  have howed : s.periodExpiry.sampleOwed = false := by
    cases hdue : s.regulation.expiryDue with
    | false => rwa [periodExpiry_of_not_due hdue]
    | true =>
      obtain ⟨-, -, -, hframe⟩ := periodExpiry_refills hdue
      exact (of_decide_eq_true (hframe.2 .sampleOwed (by decide))).trans ho
  refine (next_of_high hr State.takePeriodExpiry).trans (congrArg Host.Outcome.next ?_)
  rw [State.takePeriodExpiry, offerSample_of_not_owed _ howed]

/-- Settles O22: the refill with the re-check it starts when the expiry is due, and no effect while it is not. -/
theorem periodExpiryRefills : Obligations.PeriodExpiryRefills := by
  intro s hr ho
  refine ⟨fun n hn hdue => ?_, fun hnot => ?_⟩
  · obtain ⟨hregulation, hnone, hchecks, hframe⟩ := periodExpiry_refills ((periodDue_iff s.regulation).mpr ⟨n, hn, hdue⟩)
    refine ⟨_, exec_periodExpiry hr ho, ?_, fun i => ?_, hnone, hchecks, hframe⟩
    · rw [hregulation]
      rfl
    · rw [State.remaining, hregulation]
      exact remaining_beginPeriod s i
  · have hdue : s.regulation.expiryDue = false := Bool.eq_false_iff.mpr fun h => by
      obtain ⟨n, hn, hd⟩ := (periodDue_iff s.regulation).mp h
      exact Bool.false_ne_true ((hnot n hn).symm.trans hd)
    rw [exec_periodExpiry hr ho, periodExpiry_of_not_due hdue]

end Sys2Proof.Machine
end

section
/-!
Credits and stray responses at the target port (R37, R101, R102, R106), and O15 and O16.
-/

namespace Sys2Proof.Machine

/-! ### Stray responses (R102, R106) -/

/-- In RESYNCING a RESPONSE is discarded (R102). -/
theorem takeResponse_of_resyncing {s : State} (h : s.target.state = .resyncing) (r : Response) : s.takeResponse r = s := if_pos h

/-- A RESPONSE for an entry that is not at the target is stray (R106). -/
theorem takeResponse_of_stray {s : State} {r : Response} (ht : s.target.state ≠ .resyncing)
    (h : ∀ e ∈ s.entry r.tag, e.phase = .waiting ∨ e.phase = .ready) : s.takeResponse r = s.strayResponse r.tag := by
  rw [State.takeResponse, if_neg ht]
  cases he : s.entry r.tag with
  | none => rfl
  | some e => rcases h e he with hp | hp <;> simp only [hp]

/-- Settles O15: the record is all that a stray response does. -/
theorem strayResponseIsDiscarded : Obligations.StrayResponseIsDiscarded := by
  intro r s hr ht h
  have hnext := next_of_high hr fun t => t.takeResponse r
  rw [takeResponse_of_stray ht h] at hnext
  exact ⟨_, hnext, logFault_hands s _, logFault_frame s _⟩

/-! ### Setting the credits (R37) -/

/-- The target port with `n` credits. -/
def State.withCredits (s : State) (n : Nat) : State := { s with target := { s.target with credits := n } }

theorem withCredits_frame (s : State) (n : Nat) : s.Frame (s.withCredits n) [.credits] := by
  refine ⟨rfl, fun p hp => ?_⟩
  cases p with
  | credits => exact absurd (List.mem_singleton_self _) hp
  | histogramIndex => exact decide_eq_true ⟨rfl, rfl⟩
  | _ => exact decide_eq_true rfl

/-- The count is held at 64, and a count above is recorded (R37). -/
theorem setCredits_eq (s : State) (n : Nat) : s.setCredits n =
    if 64 < n then (s.withCredits (min 64 n)).logFault (targetFault .targetCreditOverflow) else s.withCredits (min 64 n) := rfl

theorem setCredits_hands {n : Nat} (h : 64 < n) (s : State) :
    s.HandsFault (s.setCredits n) { kind := .targetCreditOverflow, source := .target } := by
  rw [setCredits_eq, if_pos h]
  exact logFault_hands (s.withCredits (min 64 n)) _

theorem setCredits_frame (s : State) (n : Nat) : s.Frame (s.setCredits n) (.credits :: if 64 < n then Piece.ofFault else []) := by
  rw [setCredits_eq]
  split
  · exact frame_trans (withCredits_frame s _) (logFault_frame _ _)
  · exact withCredits_frame s _

theorem takeCredit_of_present {s : State} (h : s.target.state = .online ∨ s.target.state = .suspect) (n : Nat) :
    s.takeCredit n = s.setCredits (s.target.credits + n) := by
  rcases h with h | h <;> simp only [State.takeCredit, h]

theorem takeCredit_of_away {s : State} (h : s.target.state = .offline ∨ s.target.state = .resyncing) (n : Nat) : s.takeCredit n = s := by
  rcases h with h | h <;> simp only [State.takeCredit, h]

/-- Settles O16: the credits are set in ONLINE and SUSPECT; in OFFLINE and RESYNCING the message is discarded. -/
theorem targetCreditsAdd : Obligations.TargetCreditsAdd := by
  intro n s hr
  have hnext := next_of_high hr fun t => t.takeCredit n
  refine ⟨fun h => ?_, fun h => ?_, fun r h => ?_⟩
  · rw [takeCredit_of_present h] at hnext
    obtain ⟨-, -, htarget⟩ := setCredits_sets s (s.target.credits + n)
    have hframe := setCredits_frame s (s.target.credits + n)
    refine ⟨_, hnext, by rw [htarget], fun hle => ?_, fun hlt => ⟨setCredits_hands hlt s, ?_⟩⟩
    · rwa [if_neg (Nat.not_lt.mpr hle)] at hframe
    · rwa [if_pos hlt] at hframe
  · rw [takeCredit_of_away h] at hnext
    exact hnext
  · exact (next_of_high hr fun t => t.takeResponse r).trans (congrArg Host.Outcome.next (takeResponse_of_resyncing h r))

end Sys2Proof.Machine
end

section
/-!
The issue arbiter (R99, R100), and O26.
-/

namespace Sys2Proof.Machine

/-! ### The winner (R99) -/

section
variable {t : TargetPort} {x : EntryIdx}

theorem winner_of_high (hx : t.highQueue.head? = some x) (hn : t.normalQueue = [] ∨ t.consecutiveHigh < 4) : t.winner = some (.high, x) := by
  obtain ⟨l, hl⟩ := List.head?_eq_some_iff.mp hx
  cases hq : t.normalQueue with
  | nil => simp only [TargetPort.winner, hl, hq]
  | cons y m =>
    have hlow : t.consecutiveHigh < 4 := hn.resolve_left (by simp [hq])
    simp only [TargetPort.winner, hl, hq, hlow, if_true]

theorem winner_of_normal (hx : t.normalQueue.head? = some x) (hh : t.highQueue = [] ∨ 4 ≤ t.consecutiveHigh) : t.winner = some (.normal, x) := by
  obtain ⟨l, hl⟩ := List.head?_eq_some_iff.mp hx
  cases hq : t.highQueue with
  | nil => simp only [TargetPort.winner, hl, hq]
  | cons y m =>
    have hspent : ¬t.consecutiveHigh < 4 := Nat.not_lt.mpr (hh.resolve_left (by simp [hq]))
    simp only [TargetPort.winner, hl, hq, hspent, if_false]

theorem canIssue_iff : t.canIssue = true ↔ (t.state = .online ∨ t.state = .suspect) ∧ 0 < t.credits := by simp [TargetPort.canIssue]

end

/-! ### The issue (R100) -/

/-- Entry `x`, whose record is `e`, issued from the queue of class `c`, nothing reported yet (R12, R36, R100). -/
def State.issueEntry (s : State) (c : Cls) (x : EntryIdx) (e : Entry) : State :=
  (State.setEntry { s with target := s.target.afterIssue c } x (some { e with phase := .issued, writeData := [] })).sendTarget
    (.request x e.op e.beats e.targetAddress e.writeData)

theorem issue_of_winner {s : State} {c : Cls} {x : EntryIdx} {e : Entry} (hc : s.target.canIssue = true)
    (hw : s.target.winner = some (c, x)) (hx : s.entry x = some e) :
    s.issue = (s.issueEntry c x e).report [{ event := .issue, initiator := e.initiator, qualifier := e.cls.qualifier }] := by
  simp only [State.issue, hc, if_true, hw, hx]
  rfl

theorem issue_of_not_canIssue {s : State} (h : ¬s.target.canIssue = true) : s.issue = s := if_neg h

theorem issue_of_empty {s : State} (hh : s.target.highQueue = []) (hn : s.target.normalQueue = []) : s.issue = s := by
  simp only [State.issue, TargetPort.winner, hh, hn, ite_self]

theorem issueEntry_frame (s : State) (c : Cls) (x : EntryIdx) (e : Entry) :
    s.Frame (s.issueEntry c x e) [.entry x, .credits, .highQueue, .normalQueue, .consecutiveHigh, .targetLink] := by
  refine ⟨rfl, fun p hp => ?_⟩
  cases p with
  | entry y =>
    have hxy : x ≠ y := by rintro rfl; exact hp List.mem_cons_self
    exact decide_eq_true ((entry_setEntry _ x y _).trans (if_neg hxy))
  | credits | highQueue | normalQueue | consecutiveHigh | targetLink => exact absurd (by simp) hp
  | targetState | resyncTimer | resyncWait | detachLimit => exact decide_eq_true (by cases c <;> rfl)
  | histogramIndex => exact decide_eq_true ⟨rfl, rfl⟩
  | _ => exact decide_eq_true rfl

/-- Settles O26: the winner of the queues' heads is issued, and without a credit, a present target or a head nothing is. -/
theorem issueSendsRequest : Obligations.IssueSendsRequest := by
  refine ⟨fun s c x e hr hpresent hcredit hx hwin => ?_, fun s hr h => ?_⟩
  · have hwinner : s.target.winner = some (c, x) := by
      rcases hwin with ⟨rfl, hhead, hn⟩ | ⟨rfl, hhead, hh⟩
      · exact winner_of_high hhead hn
      · exact winner_of_normal hhead hh
    have hcls : e.cls.qualifier = if e.cls = .high then 1 else 2 := by cases e.cls <;> rfl
    have hnext := (next_of_high hr State.issue).trans
      (congrArg Host.Outcome.next (issue_of_winner (canIssue_iff.mpr ⟨hpresent, hcredit⟩) hwinner hx))
    rw [hcls] at hnext
    have honly := report_onlyMonitor (s.issueEntry c x e)
      [{ event := .issue, initiator := e.initiator, qualifier := if e.cls = .high then 1 else 2 }] none
    have htarget : (s.issueEntry c x e).target = s.target.afterIssue c := rfl
    refine ⟨_, hnext, ?_, ?_, ?_, ?_, ?_, ?_, report_counts (s.issueEntry c x e) _, frame_trans (issueEntry_frame s c x e) (report_frame _ _)⟩
    · rw [entry_of_tracker honly.tracker]
      exact (entry_setEntry _ x x _).trans (if_pos rfl)
    · rw [honly.target, htarget]; cases c <;> rfl
    · rw [honly.target, htarget]; cases c <;> rfl
    · rw [honly.target, htarget]; cases c <;> rfl
    · rw [honly.target, htarget]; cases c <;> rfl
    · rw [honly.links]; rfl
  · refine (next_of_high hr State.issue).trans (congrArg Host.Outcome.next ?_)
    rcases h with h | h | h | ⟨hh, hn⟩
    · exact issue_of_not_canIssue (by simp [canIssue_iff, h])
    · exact issue_of_not_canIssue (by simp [canIssue_iff, h])
    · exact issue_of_not_canIssue (by simp [canIssue_iff, h])
    · exact issue_of_empty hh hn

end Sys2Proof.Machine
end

section
/-!
What follows the notices of a claim, reports with a latency among it (R169), and what a claim that frees does to the free count (R4).
-/

namespace Sys2Proof.Machine

/-! ### Latencies (R169, R170) -/

/-- Of an ascending list, the places whose value a number has reached come first. -/
theorem lt_length_takeWhile_iff {l : List Nat} (h : l.Pairwise (· < ·)) (n : Nat) {j : Nat} (hj : j < l.length) :
    j < (l.takeWhile (· ≤ n)).length ↔ l[j] ≤ n := by
  induction l generalizing j with
  | nil => cases hj
  | cons a l ih =>
    obtain ⟨ha, hl⟩ := List.pairwise_cons.mp h
    by_cases han : a ≤ n
    · rw [List.takeWhile_cons_of_pos (by simpa using han)]
      cases j with
      | zero => simpa using han
      | succ j => simpa using ih hl (Nat.lt_of_succ_lt_succ hj)
    · rw [List.takeWhile_cons_of_neg (by simpa using han)]
      cases j with
      | zero => simpa using han
      | succ j =>
        have hlt : a < l[j]'(Nat.lt_of_succ_lt_succ hj) := ha _ (List.getElem_mem _)
        simp only [List.length_nil, Nat.not_lt_zero, List.getElem_cons_succ, false_iff]
        omega

theorem edges_ascending {edges : Vector Nat 7} (h : edgesValid edges = true) : edges.toList.Pairwise (· < ·) := by
  simp only [edgesValid, Bool.and_eq_true, decide_eq_true_eq] at h
  obtain ⟨⟨⟨⟨⟨⟨-, h0⟩, h1⟩, h2⟩, h3⟩, h4⟩, h5⟩ := h
  refine List.isChain_iff_pairwise.mp (List.isChain_iff_getElem.mpr fun i hi => ?_)
  simp only [Vector.length_toList] at hi
  simp only [Vector.getElem_toList]
  match i, hi with
  | 0, _ => exact h0
  | 1, _ => exact h1
  | 2, _ => exact h2
  | 3, _ => exact h3
  | 4, _ => exact h4
  | 5, _ => exact h5

/-- The bin of a latency is the one whose edges below it are reached and from which on none is (R169). -/
theorem binOf_eq_iff {edges : Vector Nat 7} (h : edgesValid edges = true) (latency : Nat) (k : Fin 8) :
    binOf edges latency = k ↔ inBin edges latency k := by
  have hreach : ∀ j : Fin 7, j.val < binOf edges latency ↔ edges[j] ≤ latency := fun j => by
    have hj : j.val < edges.toList.length := by simp
    rw [binOf, lt_length_takeWhile_iff (edges_ascending h) latency hj]
    simp
  have hle : binOf edges latency ≤ 7 := (List.takeWhile_sublist _).length_le.trans (by simp)
  constructor
  · intro hk
    exact ⟨fun j hj => (hreach j).mp (hk ▸ hj), fun j hj => Nat.not_le.mp fun hr => absurd ((hreach j).mpr hr) (by omega)⟩
  · rintro ⟨hbelow, hfrom⟩
    rcases Nat.lt_trichotomy (binOf edges latency) k with hlt | heq | hgt
    · have hb := hbelow ⟨binOf edges latency, by omega⟩ hlt
      exact absurd ((hreach _).mpr hb) (Nat.lt_irrefl _)
    · exact heq
    · have hf := hfrom ⟨k, by omega⟩ (Nat.le_refl _)
      exact absurd ((hreach _).mp hgt) (Nat.not_le.mpr hf)

theorem bins_binLatency (s : State) (i j : Initiator) (n : Tick) (k : Fin 8) : (s.binLatency i n).monitor.bins[j][k] =
    if i = j ∧ s.monitor.bank = .running ∧ k.val = binOf s.monitor.edges n.toNat then min 65535 (s.monitor.bins[j][k] + 1)
    else s.monitor.bins[j][k] := by
  unfold State.binLatency
  by_cases hb : s.monitor.bank = .running
  · have hrun : (s.monitor.bank == .running) = true := by simp [hb]
    by_cases hij : i = j
    · subst hij
      rw [if_pos hrun]
      simp only [updateAt_get, if_true, ofFn_get, hb, true_and]
    · simp only [hrun, if_true, updateAt_get, hij, if_false, false_and]
  · have hstop : (s.monitor.bank == .running) = false := by simp [hb]
    rw [hstop, if_neg Bool.false_ne_true, if_neg fun h => hb h.2.1]

/-- Where no add can freeze the bank the binning comes last (R164, log entry 1). -/
theorem report_latency_of_calm {s : State} (h : s.monitor.mayFreeze = false) (rs : List Report) (i : Initiator) (n : Tick) :
    s.report rs (some (i, n)) = (s.report rs).binLatency i n := by
  rw [State.report, State.report, inAnyOrder_of_calm _ _ h, inAnyOrder_of_calm _ _ h, monitorItems]
  simp only [List.foldl_append, List.foldl_map, List.foldl_cons, List.foldl_nil]

theorem report_latency_tallies {s : State} (h : s.monitor.mayFreeze = false) (rs : List Report) (i : Initiator) (n : Tick) :
    Tallies s (s.report rs (some (i, n))) (s.takenBy rs) := by
  rw [report_latency_of_calm h]
  have hbin : Tallies (s.report rs) ((s.report rs).binLatency i n) fun _ => 0 := by
    unfold State.binLatency
    split
    · exact ⟨rfl, fun _ => rfl, fun _ => (BitVec.add_zero _).symm⟩
    · exact .of_monitor rfl
  exact ((report_tallies s rs h).trans hbin).congr fun _ => Nat.add_zero _

/-- A completion's latency is binned once (R169, R170). -/
theorem bins_report_latency {s : State} (h : s.monitor.mayFreeze = false) (rs : List Report) (i : Initiator) (n : Tick) (k : Fin 8) :
    (s.report rs (some (i, n))).monitor.bins[i][k] =
      if s.monitor.bank = .running ∧ k.val = binOf s.monitor.edges n.toNat then min 65535 (s.monitor.bins[i][k] + 1)
      else s.monitor.bins[i][k] := by
  rw [report_latency_of_calm h, bins_binLatency, (report_tallies s rs h).bank, (report_onlyMonitor s rs none).edges, report_bins]
  simp only [true_and]

theorem bins_report_of_ne {i j : Initiator} (hij : i ≠ j) (s : State) (rs : List Report) (n : Tick) :
    (s.report rs (some (i, n))).monitor.bins[j] = s.monitor.bins[j] := by
  refine inAnyOrder_induction s _ (fun t => t.monitor.bins[j] = s.monitor.bins[j]) (fun _ => rfl) fun k t ht => ?_
  cases k with
  | some c =>
    have hbins : (rs.foldl (fun t r => t.offer c r) t).monitor.bins = t.monitor.bins := by
      clear ht
      induction rs generalizing t with
      | nil => rfl
      | cons r rs ih => exact (ih _).trans (offer_bins t c r)
    exact (congrArg (·[j]) hbins).trans ht
  | none =>
    refine (vector_ext_fin fun k => ?_).trans ht
    rw [bins_binLatency, if_neg fun h => hij h.1]

/-- What a report with a latency of initiator `i` may change (R162, R169). -/
theorem report_latency_frame (s : State) (rs : List Report) (i : Initiator) (n : Tick) :
    s.Frame (s.report rs (some (i, n))) (.bins i :: Piece.ofReport) := by
  have h := report_onlyMonitor s rs (some (i, n))
  have hport := port_of_ports h.ports
  refine ⟨h.pending, fun p hp => ?_⟩
  simp only [Piece.ofReport, List.mem_cons, List.mem_append, List.mem_map, not_or, not_exists, not_and] at hp
  obtain ⟨hbins, ⟨hvalue, hoverflow⟩, hbank, hovf, -⟩ := hp
  cases p with
  | bins j =>
    have hij : i ≠ j := by rintro rfl; exact hbins rfl
    exact decide_eq_true (bins_report_of_ne hij s rs n)
  | counterValue c => exact absurd rfl (hvalue c (List.mem_finRange c))
  | overflow c => exact absurd rfl (hoverflow c (List.mem_finRange c))
  | bank => exact absurd rfl hbank
  | flag c => exact decide_eq_true (h.flag c fun hc => hovf (by rw [hc]))
  | counterControl c => exact decide_eq_true (h.control c)
  | edgeMemory c => exact decide_eq_true (report_edgeMemory s rs _ c)
  | readHolding c => exact decide_eq_true (h.readHolding c)
  | writeHolding c => exact decide_eq_true (h.writeHolding c)
  | edges => exact decide_eq_true h.edges
  | histogramIndex => exact decide_eq_true (by rw [h.management]; exact ⟨rfl, rfl⟩)
  | _ =>
    refine decide_eq_true ?_
    simp only [State.entry, State.port, State.head, State.profile, State.remaining, State.staged, State.sentTo, h.tracker, h.ports, h.admission,
      h.windows, h.regulation, h.target, h.timebase, h.faultLog, h.enables, h.management, h.links, h.rstN, h.sampleOwed]

/-! ### Records and reports after the notices (log entry 13) -/

/-- What an event does on the way from `v` to `t` after the notices of its claim: it may hand records, and its reports `rs` are taken. -/
structure FollowsUp (v t : State) (rs : List Report) : Prop where
  tracker : t.tracker = v.tracker
  target : t.target = v.target
  view : ∀ i, t.view i = v.view i
  verdict : ∀ i r, t.verdict i r = v.verdict i r
  flag : ∀ c, c ≠ .fault → c ≠ .faultLost → c ≠ .counterOvf → t.flag c = v.flag c
  tallies : v.monitor.mayFreeze = false → Tallies v t (v.takenBy rs)

namespace FollowsUp

variable {v w t : State} {rs rs' : List Report}

theorem trans (h : FollowsUp v w rs) (k : FollowsUp w t rs') : FollowsUp v t (rs ++ rs') where
  tracker := k.tracker.trans h.tracker
  target := k.target.trans h.target
  view i := (k.view i).trans (h.view i)
  verdict i r := (k.verdict i r).trans (h.verdict i r)
  flag c hf hl ho := (k.flag c hf hl ho).trans (h.flag c hf hl ho)
  tallies hm := ((h.tallies hm).trans (k.tallies ((h.tallies hm).mayFreeze hm))).congr fun c => by
    rw [(h.tallies hm).takenBy, takenBy_append]

theorem of_onlyMonitor (h : OnlyMonitor v t) (ht : v.monitor.mayFreeze = false → Tallies v t (v.takenBy rs)) : FollowsUp v t rs where
  tracker := h.tracker
  target := h.target
  view := view_of_onlyMonitor h
  verdict := verdict_congr h.windows (by rw [h.target]) (by rw [h.admission]) (by rw [h.regulation]) h.tracker
  flag c _ _ ho := h.flag c ho
  tallies := ht

theorem report (s : State) (rs : List Report) : FollowsUp s (s.report rs) rs :=
  of_onlyMonitor (report_onlyMonitor s rs none) (report_tallies s rs)

theorem reportLatency (s : State) (rs : List Report) (i : Initiator) (n : Tick) : FollowsUp s (s.report rs (some (i, n))) rs :=
  of_onlyMonitor (report_onlyMonitor s rs _) fun h => report_latency_tallies h rs i n

theorem logFault (s : State) (r : FaultReport) : FollowsUp s (s.logFault r) [] := by
  have hflag : ∀ c, c ≠ .fault → c ≠ .faultLost → c ≠ .counterOvf → (s.logFault r).flag c = s.flag c := fun c hf hl _ => by
    rw [flag_logFault, decide_eq_false, Bool.or_false]
    split
    · exact hf
    · exact hl
  have htallies : Tallies s (s.logFault r) (s.takenBy []) := (Tallies.of_monitor (logFault_monitor s r)).congr fun c => (takenBy_nil s c).symm
  obtain ⟨l, f, h⟩ := logFault_only s r
  rw [h] at hflag htallies ⊢
  exact ⟨rfl, rfl, fun _ => rfl, verdict_congr rfl rfl rfl rfl rfl, hflag, fun _ => htallies⟩

theorem startsRecheck (h : FollowsUp v t rs) (s : State) : s.startsRecheck t = s.startsRecheck v := by
  rw [State.startsRecheck, State.startsRecheck, freeCount_of_tracker h.tracker, h.target]

theorem takesDetachedCount (h : FollowsUp v t rs) {s u : State} (hn : TakesNotices s u v) : s.TakesDetachedCount t := by
  have hcount := hn.detachedCount
  rw [State.TakesDetachedCount, detachedCount_of_tracker h.tracker, h.target, h.flag .targetState (by simp) (by simp) (by simp)]
  exact hcount

/-- The check of heads that follows a claim, each port standing as its answers leave it. -/
theorem checks (h : FollowsUp v t rs) {s u : State} (hu : OnlyClaims s u) (hn : TakesNotices s u v) {answers : Initiator → List ToInitiator}
    (hsent : ∀ i, u.sentTo i = s.sentTo i ++ answers i) : s.Checks t (s.startsRecheck t) (s.viewAfter answers) rs := by
  have hview : ∀ i, u.view i = s.viewAfter answers i := fun i => by
    rw [State.viewAfter, ← hsent, State.view, State.view, port_of_ports hu.ports, State.head, State.head, hu.admission]
  have hchecks : ∀ i, s.checksAfter u v i = (s.startsRecheck t && decide ((s.viewAfter answers i).status ≠ .noHead)) := fun i => by
    rw [State.checksAfter, h.startsRecheck, hview]
  refine ⟨fun i => ?_, ?_, counts_of_tallies fun hm => ?_⟩
  · rw [h.view, hn.view, hview, afterCheck_congr h.verdict, hchecks]
  · rw [h.flag .budgetWait (by simp) (by simp) (by simp), hn.budgetWait]
    simp only [hchecks, hview, entersBudgetWait_congr h.verdict, State.flag, hu.interrupts]
  · have hclaim : Tallies s u fun _ => 0 := Tallies.of_monitor hu.monitor
    have hnotices := hn.tallies (hclaim.mayFreeze hm)
    have hreports := h.tallies (hnotices.mayFreeze (hclaim.mayFreeze hm))
    refine ((hclaim.trans hnotices).trans hreports).congr fun c => ?_
    rw [hnotices.takenBy, hclaim.takenBy, hclaim.takenBy, takenBy_append, Nat.zero_add, Nat.add_comm]
    simp only [hchecks, hview, refusalReports_congr h.verdict]

end FollowsUp

/-! ### A record among other changes (R177) -/

/-- A frame's list leaves out all that the handing of a record reads or writes. -/
def KeepsLog (l : List Piece) : Prop := ∀ p ∈ [Piece.faultLog, .count, .flag .fault, .flag .faultLost], p ∉ l

/-- What is handed between two events that leave the log, the tick and the two flags is handed by them all together. -/
theorem handsFault_of_frames {s v w t : State} {l m : List Piece} {r : FaultReport} (h : s.Frame v l) (hl : KeepsLog l)
    (hf : v.HandsFault w r) (k : w.Frame t m) (hm : KeepsLog m) : s.HandsFault t r := by
  have hlog : v.faultLog = s.faultLog := of_decide_eq_true (h.2 .faultLog (hl _ (by simp)))
  have htick : v.timebase.count = s.timebase.count := of_decide_eq_true (h.2 .count (hl _ (by simp)))
  have hfault : v.flag .fault = s.flag .fault := of_decide_eq_true (h.2 (.flag .fault) (hl _ (by simp)))
  have hlost : v.flag .faultLost = s.flag .faultLost := of_decide_eq_true (h.2 (.flag .faultLost) (hl _ (by simp)))
  have klog : t.faultLog = w.faultLog := of_decide_eq_true (k.2 .faultLog (hm _ (by simp)))
  have kfault : t.flag .fault = w.flag .fault := of_decide_eq_true (k.2 (.flag .fault) (hm _ (by simp)))
  have klost : t.flag .faultLost = w.flag .faultLost := of_decide_eq_true (k.2 (.flag .faultLost) (hm _ (by simp)))
  simpa only [State.HandsFault, hlog, htick, hfault, hlost, klog, kfault, klost] using hf

theorem KeepsLog.append {l m : List Piece} (hl : KeepsLog l) (hm : KeepsLog m) : KeepsLog (l ++ m) := fun p hp hmem =>
  (List.mem_append.mp hmem).elim (hl p hp) (hm p hp)

theorem KeepsLog.same {s t : State} {l : List Piece} (hl : KeepsLog l) (h : s.Frame t l) :
    Piece.faultLog.same s t = true ∧ Piece.same s t (.flag .fault) = true ∧ Piece.same s t (.flag .faultLost) = true :=
  ⟨h.2 _ (hl _ (by simp)), h.2 _ (hl _ (by simp)), h.2 _ (hl _ (by simp))⟩

theorem keepsLog_nil : KeepsLog [] := fun _ _ => List.not_mem_nil

theorem keepsLog_ofClaim : KeepsLog Piece.ofClaim := by simp [KeepsLog, Piece.ofClaim]

theorem keepsLog_links : KeepsLog (initiators.map .link) := by simp [KeepsLog]

theorem keepsLog_ofReport : KeepsLog Piece.ofReport := by simp [KeepsLog, Piece.ofReport]

theorem keepsLog_ofRecheck : KeepsLog Piece.ofRecheck := by simp [KeepsLog, Piece.ofRecheck, Piece.ofReport]

theorem keepsLog_ofNotices : KeepsLog Piece.ofNotices := by simp [KeepsLog, Piece.ofNotices, Piece.ofRecheck, Piece.ofReport]

/-! ### The counts after a freeing (R4) -/

/-- A claim that takes no entry and frees one changes the free count. -/
theorem freeCount_ne_of_freed {s u : State} (hn : NoneNew (fun _ => true) s u) {x : EntryIdx} {e : Entry} (hs : s.entry x = some e)
    (hu : u.entry x = none) : u.freeCount ≠ s.freeCount := by
  have hmono : ∀ l : List EntryIdx, l.countP (fun y => (u.entry y).isSome) ≤ l.countP fun y => (s.entry y).isSome := fun l =>
    List.countP_mono_left fun y _ hy => by
      obtain ⟨g, hg⟩ := Option.isSome_iff_exists.mp hy
      obtain ⟨f, hf, -⟩ := hn y g hg rfl
      exact Option.isSome_iff_exists.mpr ⟨f, hf⟩
  obtain ⟨l, m, hlm⟩ := List.append_of_mem (mem_entryIndices x)
  have hless : entryIndices.countP (fun y => (u.entry y).isSome) < entryIndices.countP fun y => (s.entry y).isSome := by
    have hl := hmono l
    have hm := hmono m
    simp only [hlm, List.countP_append, List.countP_cons, hs, hu, Option.isSome_some, Option.isSome_none, if_true, Bool.false_eq_true, if_false]
    omega
  have hsu := sum_countP_initiator u entryIndices
  have hss := sum_countP_initiator s entryIndices
  have hfu : _ + (initiators.map fun i => entryIndices.countP fun x => (u.entry x).any fun e => e.initiator == i).sum = 64 := freeCount_add_inUse u
  have hfs : _ + (initiators.map fun i => entryIndices.countP fun x => (s.entry x).any fun e => e.initiator == i).sum = 64 := freeCount_add_inUse s
  omega

theorem freeCount_freeEntry_ne {s : State} {x : EntryIdx} {e : Entry} (hx : s.entry x = some e) : (s.freeEntry x).freeCount ≠ s.freeCount :=
  freeCount_ne_of_freed (noneNew_freeEntry (fun _ _ _ _ => rfl) s x) hx (entry_freeEntry_self s x)

/-- Freeing an entry that is not DETACHED leaves the detached count. -/
theorem detachedCount_freeEntry {s : State} {x : EntryIdx} (hd : ∀ e, s.entry x = some e → e.phase.isDetached = false) :
    (s.freeEntry x).detachedCount = s.detachedCount := by
  unfold State.detachedCount State.countEntries
  refine List.countP_congr fun y _ => ?_
  by_cases hyx : y = x
  · rw [hyx, entry_freeEntry_self]
    cases hx : s.entry x with
    | none => rfl
    | some e => simp [hd e hx]
  · have hkept := entryKept_freeEntry s hyx
    rw [entryKept_iff] at hkept
    cases hs : s.entry y <;> cases hu : (s.freeEntry x).entry y <;> simp_all
    rw [hkept.isDetached]

/-! ### One entry freed, exactly (R9, R10) -/

theorem settles_of_settledAs {s t : State} {gone : EntryIdx → Bool} (h : SettledAs s t gone fun _ => none) : s.Settles t gone :=
  ⟨h.entry, h.queueOf .high, h.queueOf .normal⟩

/-- What one freeing leaves where the tracker kept its laws. -/
theorem settledAs_freeEntry {s : State} (hs : s.TrackerLaws) {x : EntryIdx} {e : Entry} (hx : s.entry x = some e) :
    SettledAs s (s.freeEntry x) (fun y => decide (y = x)) fun _ => none := by
  have h := (settledAs_refl hs).free hs hs hx rfl (fun _ hp => absurd hp Bool.false_ne_true) fun _ _ _ hd => absurd rfl hd
  have hgone : goneWith (fun _ => false) x = fun y => decide (y = x) := funext fun y => Bool.false_or _
  rwa [hgone] at h

end Sys2Proof.Machine
end

section
/-!
A response for an entry that was at the target (R103 to R105), and O13 and O14.
-/

namespace Sys2Proof.Machine

/-! ### Pieces among pieces -/

theorem ofReport_subset_ofRecheck : Piece.ofReport ⊆ Piece.ofRecheck := fun _ hp =>
  List.mem_append_right _ (List.mem_cons_of_mem _ hp)

theorem links_subset_ofRecheck : initiators.map .link ⊆ Piece.ofRecheck := fun _ hp =>
  List.mem_append_left _ (List.mem_append_right _ hp)

theorem ofRecheck_subset_ofNotices : Piece.ofRecheck ⊆ Piece.ofNotices := fun _ hp =>
  List.mem_cons_of_mem _ (List.mem_cons_of_mem _ hp)

/-! ### A response claim and its notices (R13, R14) -/

theorem answer_of_tag {e : Entry} {g : Tag} (h : e.tag = some g) (s : State) (st : Status) (d : List DataBeat) :
    s.answer e st d = s.send e.initiator (.response g st d) := by simp only [State.answer, h]

/-- A claim that frees an entry starts a re-check (R60). -/
theorem startsRecheck_of_freed {s u v : State} (hn : NoneNew (fun _ => true) s u) {x : EntryIdx} {e : Entry} (hx : s.entry x = some e)
    (hu : u.entry x = none) (ht : v.tracker = u.tracker) : s.startsRecheck v = true := by
  have hne : v.freeCount ≠ s.freeCount := freeCount_of_tracker ht ▸ freeCount_ne_of_freed hn hx hu
  simp [State.startsRecheck, hne]

/-- Notices of a claim that leaves the detached count leave the target's state and its flag (R116). -/
theorem TakesNotices.keepsTarget {s u v : State} (h : TakesNotices s u v) (hd : u.detachedCount = s.detachedCount) :
    v.target.state = s.target.state ∧ v.flag .targetState = s.flag .targetState := by
  obtain ⟨hstate, hflag⟩ := h.detachedCount
  have hcount : v.detachedCount = s.detachedCount := (detachedCount_of_tracker h.tracker).trans hd
  simp only [hcount, ne_eq, not_true_eq_false, false_and, decide_false, Bool.false_eq_true, if_false, Bool.or_false] at hstate hflag
  exact ⟨hstate, hflag⟩

/-- What the notices of a claim may change where it leaves the detached count. -/
theorem notices_frame_of_count {s u : State} (h : OnlyClaims s u) (hd : u.detachedCount = s.detachedCount) :
    u.Frame (State.notices s u) Piece.ofRecheck := by
  obtain ⟨hstate, hflag⟩ := (notices_takesNotices h).keepsTarget hd
  refine frame_strike (m := [.targetState, .flag .targetState]) (frame_mono (notices_frame s u) fun p hp => ?_) fun p hp => ?_
  · simp only [Piece.ofNotices, List.mem_cons, List.mem_append] at hp ⊢
    tauto
  · simp only [List.mem_cons, List.not_mem_nil, or_false] at hp
    rcases hp with rfl | rfl
    · exact decide_eq_true (hstate.trans h.targetState.symm)
    · exact decide_eq_true (hflag.trans (flag_of_interrupts h.interrupts _).symm)

theorem viewAfter_of_silent (s : State) : (s.viewAfter fun _ => []) = s.view := funext fun i => by
  rw [State.viewAfter, List.append_nil]
  rfl

/-- Entry `x` freed after its answer, if any, with the notices and what follows them: what a response claim does (R13, R14). -/
theorem freeing_effect {s w t : State} {x : EntryIdx} {e : Entry} {answers : Initiator → List ToInitiator} {rs : List Report}
    (hx : s.entry x = some e) (hw : OnlyClaims s w) (htr : w.tracker = s.tracker) (htarget : w.target = s.target)
    (hsent : ∀ i, w.sentTo i = s.sentTo i ++ answers i) (hf : FollowsUp (State.notices s (w.freeEntry x)) t rs) :
    t.entry x = none ∧ (∀ y, y ≠ x → s.entryKept t y = true) ∧ (s.TrackerLaws → s.Settles t fun y => decide (y = x)) ∧
      s.TakesDetachedCount t ∧ s.Checks t true (s.viewAfter answers) rs := by
  have hwx : w.entry x = some e := (entry_of_tracker htr x).trans hx
  have hu := hw.trans (freeEntry_onlyClaims w x)
  have hn := notices_takesNotices hu
  have htracker : t.tracker = (w.freeEntry x).tracker := hf.tracker.trans hn.tracker
  have hentry := entry_of_tracker htracker
  have hnone : NoneNew (fun _ => true) s (w.freeEntry x) := (NoneNew.of_tracker htr _).trans (noneNew_freeEntry (fun _ _ _ _ => rfl) w x)
  have hchecks := hf.checks hu hn (answers := answers) fun i => by
    rw [State.sentTo, freeEntry_links]
    exact hsent i
  rw [startsRecheck_of_freed hnone hx (entry_freeEntry_self w x) htracker] at hchecks
  refine ⟨(hentry x).trans (entry_freeEntry_self w x), fun y hy => ?_, fun hs => ?_, hf.takesDetachedCount hn, hchecks⟩
  · exact entryKept_trans (entryKept_of_tracker htr y) (entryKept_trans (entryKept_freeEntry w hy) (entryKept_of_tracker htracker y))
  · have hwlaws : w.TrackerLaws := trackerLaws_congr htr (fun c => by rw [htarget]) hs
    have hsettled := (settledAs_freeEntry hwlaws hwx).congr htracker fun c => by rw [hf.target, hn.queueOf]
    have hwentry : w.entry = s.entry := funext (entry_of_tracker htr)
    have hsettles := settles_of_settledAs hsettled
    simpa only [State.Settles, State.releases, hwentry, htarget] using hsettles

/-! ### A late response (R105) -/

theorem takeResponse_of_detached {s : State} {r : Response} {e : Entry} {c : DetachCause} (ht : s.target.state ≠ .resyncing)
    (hx : s.entry r.tag = some e) (hp : e.phase = .detached c) : s.takeResponse r = s.lateResponse r.tag e c := by
  simp only [State.takeResponse, if_neg ht, hx, hp]

/-- The record of a late response (R105). -/
def lateFault (x : EntryIdx) (e : Entry) (c : DetachCause) : FaultReport :=
  { kind := .lateResponse, source := .target, entry := some x, address := some e.targetAddress, cause := some c }

theorem lateResponse_eq (s : State) (x : EntryIdx) (e : Entry) (c : DetachCause) : s.lateResponse x e c =
    ((State.notices s (s.freeEntry x)).logFault (lateFault x e c)).report [{ event := .late, initiator := e.initiator }] := rfl

/-- Settles O14: the freeing, its notices, the record and the report, one after another. -/
theorem lateResponseEndsQuarantine : Obligations.LateResponseEndsQuarantine := by
  intro r s e c hr ht hx hp
  have hnext := next_of_high hr fun t => t.takeResponse r
  rw [takeResponse_of_detached ht hx hp, lateResponse_eq] at hnext
  have hfollow := (FollowsUp.logFault (State.notices s (s.freeEntry r.tag)) (lateFault r.tag e c)).trans
    (.report _ [{ event := .late, initiator := e.initiator }])
  obtain ⟨hfree, hkept, hsettles, hcount, hchecks⟩ :=
    freeing_effect hx (OnlyClaims.refl s) rfl rfl (answers := fun _ => []) (fun i => (List.append_nil _).symm) hfollow
  rw [viewAfter_of_silent] at hchecks
  have hframe := frame_trans (freeEntry_frame s r.tag) (notices_frame s (s.freeEntry r.tag))
  generalize State.notices s (s.freeEntry r.tag) = v at *
  have hrecord := logFault_frame v (lateFault r.tag e c)
  have hreport := report_frame (v.logFault (lateFault r.tag e c)) [{ event := .late, initiator := e.initiator }]
  refine ⟨_, hnext, hfree, hkept, hsettles, ?_, hcount, hchecks, frame_mono (frame_trans (frame_trans hframe hrecord) hreport) fun p hp => ?_⟩
  · exact handsFault_of_frames hframe (keepsLog_ofClaim.append keepsLog_ofNotices) (logFault_hands _ _) hreport keepsLog_ofReport
  · have hnotices : p ∈ Piece.ofReport → p ∈ Piece.ofNotices := fun h => ofRecheck_subset_ofNotices (ofReport_subset_ofRecheck h)
    simp only [List.mem_append] at hp ⊢
    tauto

/-! ### A completion (R103, R104) -/

theorem takeResponse_of_issued {s : State} {r : Response} {e : Entry} (ht : s.target.state ≠ .resyncing) (hx : s.entry r.tag = some e)
    (hp : e.phase = .issued) : s.takeResponse r = s.completion r e := by
  simp only [State.takeResponse, if_neg ht, hx, hp]

/-- A RESPONSE is well-formed where its count is that of its records, at most 8, and a READ's OKAY alone carries its beats (R103). -/
theorem responseWellFormed_eq (r : Response) (e : Entry) : responseWellFormed r e =
    decide (r.dataCount = r.data.length ∧ r.data.length ≤ 8 ∧ r.data.length = if e.op = .read ∧ r.status = .okay then e.beats else 0) := by
  have hcount : (r.dataCount = r.data.length ∧ r.dataCount ≤ 8) ↔ r.dataCount = r.data.length ∧ r.data.length ≤ 8 :=
    and_congr_right fun h => by rw [h]
  rw [Bool.eq_iff_iff, decide_eq_true_eq, ← and_assoc, ← hcount]
  unfold responseWellFormed
  cases e.op <;> cases r.status <;> simp

/-- Is the RESPONSE a well-formed OKAY (R103)? -/
def goodResponse (r : Response) (e : Entry) : Bool := decide (responseWellFormed r e = true ∧ r.status = .okay)

section
variable (r : Response) (e : Entry)

theorem responseAnswer_eq : responseAnswer r e = if goodResponse r e then .okay else .errTarget := by
  simp only [responseAnswer, goodResponse, decide_eq_true_eq]

theorem responseData_eq : responseData r e = if goodResponse r e ∧ e.op = .read then r.data else [] := by
  cases hg : goodResponse r e <;> simp [responseData, responseAnswer_eq, hg]

theorem completedQualifier_answer : completedQualifier (responseAnswer r e) = if goodResponse r e then 1 else 2 := by
  cases hg : goodResponse r e <;> simp [completedQualifier, responseAnswer_eq, hg]

end

/-- The answers of a completion: one, to the entry's initiator (R11, R103). -/
def completionAnswers (r : Response) (e : Entry) (g : Tag) (i : Initiator) : List ToInitiator :=
  if i = e.initiator then [.response g (responseAnswer r e) (responseData r e)] else []

/-- The COMPLETED report of a completion (R104, R158). -/
def completedReport (r : Response) (e : Entry) : Report :=
  { event := .completed, initiator := e.initiator, qualifier := completedQualifier (responseAnswer r e) }

/-- The record of a RESPONSE that is not well-formed (R104). -/
def badFault (r : Response) (e : Entry) : FaultReport :=
  { kind := .badResponse, source := .target, tag := e.tag, entry := some r.tag, address := some e.targetAddress }

/-- The state in which a completion's entry is freed, its initiator answered. -/
def State.completed (s : State) (r : Response) (e : Entry) : State :=
  (s.answer e (responseAnswer r e) (responseData r e)).freeEntry r.tag

/-- The completion up to its report: the notices, then COMPLETED with the latency. -/
def State.completionReported (s : State) (r : Response) (e : Entry) : State :=
  (State.notices s (s.completed r e)).report [completedReport r e] (some (e.initiator, s.timebase.count - e.admissionTick))

theorem completion_eq (s : State) (r : Response) (e : Entry) : s.completion r e =
    if responseWellFormed r e then s.completionReported r e else (s.completionReported r e).logFault (badFault r e) := rfl

theorem completion_followsUp (s : State) (r : Response) (e : Entry) :
    FollowsUp (State.notices s (s.completed r e)) (s.completion r e) [completedReport r e] := by
  rw [completion_eq]
  have h := FollowsUp.reportLatency (State.notices s (s.completed r e)) [completedReport r e] e.initiator (s.timebase.count - e.admissionTick)
  split
  · exact h
  · exact h.trans (.logFault _ _)

theorem completed_onlyClaims (s : State) (r : Response) (e : Entry) : OnlyClaims s (s.completed r e) :=
  (answer_onlyClaims ..).trans (freeEntry_onlyClaims ..)

section
variable {s : State} {r : Response} {e : Entry} (hx : s.entry r.tag = some e) (hp : e.phase = .issued)
include hx hp

/-- An ISSUED entry's freeing leaves the detached count. -/
theorem detachedCount_completed : (s.completed r e).detachedCount = s.detachedCount := by
  have htr := answer_tracker s e (responseAnswer r e) (responseData r e)
  rw [← detachedCount_of_tracker htr]
  refine detachedCount_freeEntry fun f hf => ?_
  rw [entry_of_tracker htr, hx] at hf
  cases hf
  rw [hp]
  rfl

theorem completedNotices_frame : (s.completed r e).Frame (State.notices s (s.completed r e)) Piece.ofRecheck :=
  notices_frame_of_count (completed_onlyClaims s r e) (detachedCount_completed hx hp)

/-- The bins of a completion's initiator (R169, R170). -/
theorem bins_completion (hm : s.monitor.mayFreeze = false) (he : edgesValid s.monitor.edges = true) (k : Fin 8) :
    (s.completion r e).monitor.bins[e.initiator][k] =
      if s.monitor.bank = .running ∧ inBin s.monitor.edges (s.timebase.count - e.admissionTick).toNat k then
        min 65535 (s.monitor.bins[e.initiator][k] + 1)
      else s.monitor.bins[e.initiator][k] := by
  have hu := completed_onlyClaims s r e
  have hclaim : Tallies s (s.completed r e) fun _ => 0 := .of_monitor hu.monitor
  have hnotices := hclaim.trans ((notices_takesNotices hu).tallies (hclaim.mayFreeze hm))
  have hframe := completedNotices_frame hx hp
  have hmonitor : (s.completion r e).monitor = (s.completionReported r e).monitor := by
    rw [completion_eq]
    split
    · rfl
    · exact logFault_monitor _ _
  have hbank := hnotices.bank
  rw [hmonitor, State.completionReported, bins_report_latency (hnotices.mayFreeze hm)]
  generalize State.notices s (s.completed r e) = v at hframe hbank
  have hbins : v.monitor.bins[e.initiator] = (s.completed r e).monitor.bins[e.initiator] :=
    of_decide_eq_true (hframe.2 (.bins e.initiator) (by simp [Piece.ofRecheck, Piece.ofReport]))
  have hedges : v.monitor.edges = (s.completed r e).monitor.edges :=
    of_decide_eq_true (hframe.2 .edges (by simp [Piece.ofRecheck, Piece.ofReport]))
  rw [hu.monitor] at hbins hedges
  have hk : k.val = binOf s.monitor.edges (s.timebase.count - e.admissionTick).toNat ↔
      inBin s.monitor.edges (s.timebase.count - e.admissionTick).toNat k := eq_comm.trans (binOf_eq_iff he _ k)
  simp only [hbins, hedges, hbank, hk]

variable {g : Tag} (hg : e.tag = some g)
include hg

omit hx hp in
theorem completed_frame : s.Frame (s.completed r e) (.link e.initiator :: Piece.ofClaim) := by
  rw [State.completed, answer_of_tag hg]
  exact frame_trans (send_frame s _ _) (freeEntry_frame _ _)

theorem completionReported_frame : s.Frame (s.completionReported r e) (.bins e.initiator :: (Piece.ofClaim ++ Piece.ofRecheck)) := by
  refine frame_mono (frame_trans (frame_trans (completed_frame hg) (completedNotices_frame hx hp)) (report_latency_frame _ _ _ _)) fun p hp => ?_
  have hlink : Piece.link e.initiator ∈ Piece.ofRecheck := links_subset_ofRecheck (List.mem_map_of_mem (mem_initiators _))
  have hreport : p ∈ Piece.ofReport → p ∈ Piece.ofRecheck := fun h => ofReport_subset_ofRecheck h
  simp only [List.mem_append, List.mem_cons] at hp ⊢
  rcases hp with ((rfl | hp) | hp) | rfl | hp
  · exact .inr (.inr hlink)
  · exact .inr (.inl hp)
  · exact .inr (.inr hp)
  · exact .inl rfl
  · exact .inr (.inr (hreport hp))

/-- A RESPONSE that is not well-formed is recorded, and one that is leaves the log (R104). -/
theorem completion_record :
    (if responseWellFormed r e then Piece.faultLog.same s (s.completion r e) = true ∧ Piece.same s (s.completion r e) (.flag .fault) = true ∧
        Piece.same s (s.completion r e) (.flag .faultLost) = true
      else s.HandsFault (s.completion r e) (badFault r e)) ∧
    s.Frame (s.completion r e) (.bins e.initiator :: (Piece.ofClaim ++ Piece.ofRecheck ++ Piece.ofFault)) := by
  have hframe := completionReported_frame hx hp hg
  have hkeeps : KeepsLog (.bins e.initiator :: (Piece.ofClaim ++ Piece.ofRecheck)) := fun q hq => by
    rw [List.mem_cons, not_or]
    exact ⟨by rintro rfl; simp at hq, keepsLog_ofClaim.append keepsLog_ofRecheck q hq⟩
  rw [completion_eq]
  generalize s.completionReported r e = u at hframe
  cases responseWellFormed r e with
  | true => exact ⟨hkeeps.same hframe, frame_mono hframe fun p hp => by simp only [List.mem_cons, List.mem_append] at hp ⊢; tauto⟩
  | false =>
    have hhands := handsFault_of_frames hframe hkeeps (logFault_hands u (badFault r e)) (frame_refl _ []) keepsLog_nil
    exact ⟨hhands, frame_trans hframe (logFault_frame u _)⟩

omit hx hp in
theorem sentTo_answer_completion (i : Initiator) : (s.answer e (responseAnswer r e) (responseData r e)).sentTo i =
    s.sentTo i ++ completionAnswers r e g i := by
  rw [answer_of_tag hg, sentTo_send, completionAnswers]
  by_cases hi : i = e.initiator
  · rw [if_pos hi.symm, if_pos hi]
  · rw [if_neg (Ne.symm hi), if_neg hi, List.append_nil]

end

/-- Settles O13: the answer and the freeing, their notices, the report with the latency, and the record of a RESPONSE that is not
well-formed. -/
theorem responseCompletes : Obligations.ResponseCompletes := by
  intro r s e g hr ht hx hp hg
  have hnext := next_of_high hr fun t => t.takeResponse r
  rw [takeResponse_of_issued ht hx hp] at hnext
  obtain ⟨hfree, hkept, hsettles, -, hchecks⟩ := freeing_effect hx (answer_onlyClaims s e (responseAnswer r e) (responseData r e))
    (answer_tracker ..) (answer_target ..) (sentTo_answer_completion hg) (completion_followsUp s r e)
  obtain ⟨hrecord, hframe⟩ := completion_record hx hp hg
  have hbins := bins_completion hx hp
  generalize s.completion r e = t at *
  refine ⟨t, hnext, ?_, hfree, hkept, hsettles, hframe⟩
  intro wf good
  have hwf : responseWellFormed r e = wf := responseWellFormed_eq r e
  have hgood : goodResponse r e = good := decide_eq_decide.mpr (by rw [hwf])
  have hanswers : completionAnswers r e g = fun i => if i = e.initiator then
      [.response g (if good then .okay else .errTarget) (if good ∧ e.op = .read then r.data else [])] else [] := funext fun i => by
    rw [completionAnswers, responseAnswer_eq, responseData_eq, hgood]
  rw [hanswers, completedReport, completedQualifier_answer, hgood] at hchecks
  rw [badFault, hg, hwf] at hrecord
  exact ⟨hchecks, hrecord, hbins⟩

end Sys2Proof.Machine
end

section
/-!
The claims that free what was at the target (R23, R24), entry by entry, and the target brought ONLINE after them (R111, R115): O17 and O18.
-/

namespace Sys2Proof.Machine

/-! ### Re-checks after a claim -/

/-- What a claim leaves of the ports, with the answers it sent. -/
theorem view_of_onlyClaims {s u : State} (h : OnlyClaims s u) {answers : Initiator → List ToInitiator}
    (hsent : ∀ i, u.sentTo i = s.sentTo i ++ answers i) : u.view = s.viewAfter answers := funext fun i => by
  rw [State.viewAfter, ← hsent, State.view, State.view, port_of_ports h.ports, State.head, State.head, h.admission]

/-- A re-check after a claim and an event that left the ports, BUDGET_WAIT and the monitor. -/
theorem checks_of_claim {s u w : State} (hu : OnlyClaims s u) {answers : Initiator → List ToInitiator}
    (hsent : ∀ i, u.sentTo i = s.sentTo i ++ answers i) (hview : w.view = u.view) (hflag : w.flag .budgetWait = u.flag .budgetWait)
    (hmonitor : w.monitor = u.monitor) : s.Checks w.recheck true (s.viewAfter answers) := by
  rw [← view_of_onlyClaims hu hsent, ← hview]
  exact checks_of_checksPorts (recheck_onlyHeads w) (recheck_checksPorts w) (hflag.trans (flag_of_interrupts hu.interrupts _))
    fun _ => (Tallies.of_monitor (hmonitor.trans hu.monitor)).congr fun c => (takenBy_nil s c).symm

/-! ### One turn of a freeing claim -/

/-- The turn of entry `x` in a claim that frees the entries `sel` selects, those of `answers` with ERR_TARGET and the others silently. -/
def State.sweepEntry (sel answers : Entry → Bool) (s : State) (x : EntryIdx) : State :=
  match s.entry x with
  | none => s
  | some e => if sel e then (s.answerWith (if answers e then some .errTarget else none) e).freeEntry x else s

section
variable (sel answers : Entry → Bool) {s : State} {x : EntryIdx}

theorem sweepEntry_of_pass (h : (s.entry x).any sel = false) : s.sweepEntry sel answers x = s := by
  unfold State.sweepEntry
  cases hx : s.entry x with
  | none => rfl
  | some e =>
    rw [hx, Option.any_some] at h
    simp only [h, Bool.false_eq_true, if_false]

theorem sweepEntry_of_selected {e : Entry} (hx : s.entry x = some e) (h : sel e = true) :
    s.sweepEntry sel answers x = (s.answerWith (if answers e then some .errTarget else none) e).freeEntry x := by
  simp only [State.sweepEntry, hx, h, if_true]

end

/-- The acknowledgement frees the DETACHED entries (R23). -/
theorem acknowledgeClaim_eq (s : State) :
    s.acknowledgeClaim = entryIndices.foldl (State.sweepEntry Entry.detached fun _ => false) s := by
  refine congrArg (fun f => entryIndices.foldl f s) (funext fun t => funext fun x => ?_)
  unfold State.acknowledgeEntry State.sweepEntry
  cases t.entry x with
  | none => rfl
  | some e => rfl

/-- What the notice frees: the ISSUED and the DETACHED entries (R24). -/
def Entry.atTarget (e : Entry) : Bool := e.phase = .issued || e.phase.isDetached

/-- The notice frees what was at the target and answers the ISSUED entries (R24). -/
theorem noticeClaim_eq (s : State) : s.noticeClaim = entryIndices.foldl (State.sweepEntry Entry.atTarget Entry.issued) s := by
  refine congrArg (fun f => entryIndices.foldl f s) (funext fun t => funext fun x => ?_)
  unfold State.noticeEntry State.sweepEntry
  cases t.entry x with
  | none => rfl
  | some e => cases hp : e.phase <;> simp [Entry.atTarget, Entry.issued, hp, Phase.isDetached, State.answerWith]

/-! ### A freeing claim entry by entry (R9, R10, R17) -/

/-- What `p` picks of the entries below `n`. -/
def below (p : EntryIdx → Bool) (n : Nat) (x : EntryIdx) : Bool := decide (x.val < n) && p x

section
variable {p : EntryIdx → Bool} {k : EntryIdx}

theorem below_self (p : EntryIdx → Bool) (k : EntryIdx) : below p k k = false := by simp [below]

theorem below_all (p : EntryIdx → Bool) : below p 64 = p := funext fun x => by simp [below, x.isLt]

theorem lt_of_below {x : EntryIdx} (h : below p k x = true) : x < k := of_decide_eq_true (Bool.and_eq_true_iff.mp h).1

theorem below_succ (p : EntryIdx → Bool) (k x : EntryIdx) : below p (k + 1) x = (below p k x || (decide (x = k) && p k)) := by
  by_cases hx : x = k
  · simp [below, hx]
  · have hne : x.val ≠ k.val := fun h => hx (Fin.ext h)
    have hlt : x.val < k.val + 1 ↔ x.val < k.val := by omega
    simp [below, hx, hlt]

theorem below_succ_of_not (h : p k = false) : below p (k + 1) = below p k := funext fun x => by
  rw [below_succ, h, Bool.and_false, Bool.or_false]

theorem below_succ_of (h : p k = true) : below p (k + 1) = goneWith (below p k) k := funext fun x => by
  rw [below_succ, h, Bool.and_true, goneWith]

end

/-- What holds before the entries are taken in ascending index and is kept by each turn holds after them all. -/
theorem foldl_entryIndices_induction {s : State} {f : State → EntryIdx → State} {P : Nat → State → Prop} (hzero : P 0 s)
    (hstep : ∀ (k : EntryIdx) u, P k u → P (k + 1) (f u k)) : P 64 (entryIndices.foldl f s) := by
  have fold : ∀ n, n ≤ 64 → P n ((entryIndices.take n).foldl f s) := by
    intro n
    induction n with
    | zero => exact fun _ => hzero
    | succ n ih =>
      intro hn
      rw [take_entryIndices_succ ⟨n, hn⟩, List.foldl_append]
      exact hstep ⟨n, hn⟩ _ (ih (Nat.le_of_succ_le hn))
  have h := fold 64 (Nat.le_refl 64)
  rwa [take_entryIndices_all] at h

/-- Does `sel` select entry `x` of the state? -/
def State.picks (s : State) (sel : Entry → Bool) (x : EntryIdx) : Bool := (s.entry x).any sel

/-- A freeing claim has taken the entries of `s` below `n`, so far as `u`. -/
structure SweptBelow (s : State) (sel answers : Entry → Bool) (n : Nat) (u : State) : Prop where
  entry : ∀ y, if below (s.picks sel) n y = true then u.entry y = none else s.entryKept u y = true
  sent : ∀ i, u.sentTo i = s.sentTo i ++ (entryIndices.take n).filterMap (s.answerFor i answers .errTarget)
  settled : s.TrackerLaws → u.TrackerLaws ∧ SettledAs s u (below (s.picks sel) n) fun _ => none

theorem trackerLaws_answerWith {s : State} (h : s.TrackerLaws) (a : Option Status) (e : Entry) : (s.answerWith a e).TrackerLaws := by
  cases a with
  | none => exact h
  | some st => exact trackerLaws_answer h e st []

@[simp] theorem answerWith_target (s : State) (a : Option Status) (e : Entry) : (s.answerWith a e).target = s.target := by
  cases a with
  | none => rfl
  | some st => exact answer_target s e st []

/-- An entry that the claim passes over. -/
theorem SweptBelow.pass {s u : State} {sel answers : Entry → Bool} {k : EntryIdx} (h : SweptBelow s sel answers k u)
    (hpick : s.picks sel k = false) (hnone : ∀ i, s.answerFor i answers .errTarget k = none) : SweptBelow s sel answers (k + 1) u := by
  obtain ⟨hentry, hsent, hsettled⟩ := h
  refine ⟨?_, fun i => ?_, ?_⟩
  · rwa [below_succ_of_not hpick]
  · rw [hsent, take_entryIndices_succ, List.filterMap_append]
    simp [hnone i]
  · rwa [below_succ_of_not hpick]

/-- A freeing of entry `k`, answered or not, where the claim has come as far as `k`. -/
theorem SweptBelow.free {s u : State} {sel answers : Entry → Bool} {k : EntryIdx} (h : SweptBelow s sel answers k u) {e f : Entry}
    (hx : s.entry k = some e) (hu : u.entry k = some f) (hs : sel e = true) {a : Option Status}
    (hsent : ∀ i, (u.answerWith a f).sentTo i = u.sentTo i ++ (s.answerFor i answers .errTarget k).toList) :
    SweptBelow s sel answers (k + 1) ((u.answerWith a f).freeEntry k) := by
  have hpick : s.picks sel k = true := by rw [State.picks, hx]; exact hs
  refine ⟨fun y => ?_, fun i => ?_, fun hlaws => ?_⟩
  · by_cases hy : y = k
    · rw [hy, entry_freeEntry_self, below_succ_of hpick, if_pos (by simp [goneWith])]
    · have hgone : below (s.picks sel) (k + 1) y = below (s.picks sel) k y := by simp [below_succ, hy]
      have hkept : u.entryKept ((u.answerWith a f).freeEntry k) y = true :=
        entryKept_trans (entryKept_of_tracker (answerWith_tracker u a f) y) (entryKept_freeEntry _ hy)
      have hentry := h.entry y
      rw [hgone]
      split at hentry
      · rename_i hb
        rw [entryKept_iff, hentry] at hkept
        rw [if_pos hb]
        cases hn : ((u.answerWith a f).freeEntry k).entry y <;> simp_all
      · rename_i hb
        rw [if_neg hb]
        exact entryKept_trans hentry hkept
  · rw [State.sentTo, freeEntry_links, take_entryIndices_succ, List.filterMap_append]
    refine (hsent i).trans ?_
    rw [h.sent, List.append_assoc]
    cases ha : s.answerFor i answers .errTarget k <;> simp [ha]
  · obtain ⟨hulaws, hsettled⟩ := h.settled hlaws
    have hwlaws := trackerLaws_answerWith hulaws a f
    have hwk : (u.answerWith a f).entry k = some f := (entry_answerWith u a f k).trans hu
    refine ⟨trackerLaws_freeEntry hwlaws hwk, ?_⟩
    rw [below_succ_of hpick]
    exact (hsettled.congr (answerWith_tracker u a f) fun c => by rw [answerWith_target]).free hlaws hwlaws hwk (below_self _ k)
      (fun p hp => lt_of_below hp) fun _ _ _ hd => absurd rfl hd

section
variable {sel answers : Entry → Bool} (hsel : SteadySelection sel) (hanswers : SteadySelection answers)
  (hlive : ∀ e, answers e = true → sel e = true ∧ e.phase.live = true)
include hsel hanswers hlive

/-- The whole of a freeing claim. -/
theorem sweep_sweptBelow (s : State) : SweptBelow s sel answers 64 (entryIndices.foldl (State.sweepEntry sel answers) s) := by
  refine foldl_entryIndices_induction (P := SweptBelow s sel answers) ⟨fun y => ?_, fun i => by simp, fun hs => ⟨hs, ?_⟩⟩ fun k u h => ?_
  · rw [if_neg (by simp [below])]
    exact entryKept_refl s y
  · have hnone : below (s.picks sel) 0 = fun _ => false := funext fun x => by simp [below]
    rw [hnone]
    exact settledAs_refl hs
  have hkept := h.entry k
  rw [below_self, if_neg Bool.false_ne_true, entryKept_iff] at hkept
  cases hx : s.entry k with
  | none =>
    have hu : u.entry k = none := by cases hu : u.entry k <;> simp_all
    rw [sweepEntry_of_pass sel answers (by rw [hu]; rfl)]
    exact h.pass (by rw [State.picks, hx]; rfl) fun i => by rw [State.answerFor, hx]; rfl
  | some e =>
    obtain ⟨f, hu⟩ : ∃ f, u.entry k = some f := by cases hu : u.entry k <;> simp_all
    have hk : e.KeptAs f := by simpa [hx, hu] using hkept
    cases hs : sel e with
    | false =>
      have ha : answers e = false := Bool.eq_false_iff.mpr fun ha => Bool.false_ne_true (hs.symm.trans (hlive e ha).1)
      rw [sweepEntry_of_pass sel answers (by rw [hu]; exact (hsel e f hk).trans hs)]
      exact h.pass (by rw [State.picks, hx]; exact hs) fun i => by simp [State.answerFor, hx, ha]
    | true =>
      rw [sweepEntry_of_selected sel answers hu ((hsel e f hk).trans hs)]
      refine h.free hx hu hs fun i => ?_
      obtain ⟨hini, htag, -⟩ := carriedBy_iff.mp hk.1
      rw [hanswers e f hk]
      cases ha : answers e with
      | false =>
        have hnone : s.answerFor i answers .errTarget k = none := by simp [State.answerFor, hx, ha]
        simp [hnone, State.answerWith]
      | true =>
        rw [answerFor_of_live hx ha (hlive e ha).2, ← hini, ← htag]
        exact sentTo_answer u f .errTarget i

end

/-! ### The target brought ONLINE (R111, R115) -/

/-- The target port begun anew: ONLINE, its consecutive-HIGH count 0 and its timer STOPPED. -/
def State.begunOnline (s : State) : State := { s with target := { s.target with state := .online, consecutiveHigh := 0, resyncTimer := none } }

theorem begunOnline_frame (s : State) : s.Frame s.begunOnline [.targetState, .consecutiveHigh, .resyncTimer] := by
  refine ⟨rfl, fun p hp => ?_⟩
  cases p with
  | targetState | consecutiveHigh | resyncTimer => exact absurd (by simp) hp
  | histogramIndex => exact decide_eq_true ⟨rfl, rfl⟩
  | _ => exact decide_eq_true rfl

/-- The target ONLINE with its credits, TARGET_STATE reported, the heads not yet checked. -/
def State.onlineWith (s : State) (n : Nat) : State := (s.setCredits n).begunOnline.raise .targetState

theorem bringOnline_eq (s : State) (n : Nat) : s.bringOnline n = (s.onlineWith n).recheck := rfl

theorem onlineWith_target (s : State) (n : Nat) :
    (s.onlineWith n).target = { s.target with state := .online, credits := min 64 n, consecutiveHigh := 0, resyncTimer := none } := by
  obtain ⟨-, -, h⟩ := setCredits_sets s n
  rw [State.onlineWith, State.raise_target, State.begunOnline, h]

/-- What the target brought ONLINE changes after the credits are set. -/
theorem onlineWith_frame (s : State) (n : Nat) :
    (s.setCredits n).Frame (s.onlineWith n) [.targetState, .consecutiveHigh, .resyncTimer, .flag .targetState] :=
  frame_trans (begunOnline_frame _) (raise_frame _ _)

/-- What the target brought ONLINE does on the way from the claimed state `u` to `t`, `s` being the state before the claim. -/
structure BringsOnline (s u t : State) (n : Nat) (answers : Initiator → List ToInitiator) : Prop where
  tracker : t.tracker = u.tracker
  target : t.target = { u.target with state := .online, credits := min 64 n, consecutiveHigh := 0, resyncTimer := none }
  flag : t.flag .targetState = true
  hands : 64 < n → s.HandsFault t { kind := .targetCreditOverflow, source := .target }
  checks : s.Checks t true (s.viewAfter answers)
  frame : s.Frame t ([.targetState, .credits, .consecutiveHigh, .resyncTimer, .flag .targetState] ++ Piece.ofClaim ++ Piece.ofRecheck ++
    if 64 < n then Piece.ofFault else [])

theorem bringOnline_brings {s u : State} (hu : OnlyClaims s u) {answers : Initiator → List ToInitiator}
    (hsent : ∀ i, u.sentTo i = s.sentTo i ++ answers i) (n : Nat) : BringsOnline s u (u.bringOnline n) n answers := by
  have honly := recheck_onlyHeads (u.onlineWith n)
  obtain ⟨hports, htracker, -⟩ := setCredits_sets u n
  have hset := setCredits_frame u n
  have hafter := frame_trans (onlineWith_frame u n) honly.frame
  rw [bringOnline_eq]
  refine ⟨honly.tracker.trans htracker, honly.target.trans (onlineWith_target u n), ?_, fun hn => ?_, ?_, ?_⟩
  · rw [honly.flag .targetState (by simp) (by simp), State.onlineWith, flag_raise, decide_eq_true rfl, Bool.or_true]
  · exact handsFault_of_frames hu.frame (keepsLog_ofClaim.append keepsLog_links) (setCredits_hands hn u) hafter
      (KeepsLog.append (by simp [KeepsLog]) keepsLog_ofRecheck)
  · have hflag : (u.onlineWith n).flag .budgetWait = u.flag .budgetWait :=
      of_decide_eq_true ((frame_trans hset (onlineWith_frame u n)).2 (.flag .budgetWait) (by split <;> simp [Piece.ofFault]))
    refine checks_of_claim hu hsent ?_ hflag ?_
    · rw [State.onlineWith]
      obtain ⟨p, l, f, honly⟩ := setCredits_only u n
      rw [honly]
      rfl
    · rw [State.onlineWith]
      obtain ⟨p, l, f, honly⟩ := setCredits_only u n
      rw [honly]
      rfl
  · refine frame_mono (frame_trans (frame_trans hu.frame hset) hafter) fun p hp => ?_
    have hbegun : [Piece.targetState, .consecutiveHigh, .resyncTimer, .flag .targetState] ⊆
        [.targetState, .credits, .consecutiveHigh, .resyncTimer, .flag .targetState] := by decide
    simp only [List.mem_append] at hp ⊢
    rcases hp with ((hp | hp) | hp) | hp | hp
    · exact .inl (.inl (.inr hp))
    · exact .inl (.inr (links_subset_ofRecheck hp))
    · rcases List.mem_cons.mp hp with rfl | hp
      · exact .inl (.inl (.inl (by simp)))
      · exact .inr hp
    · exact .inl (.inl (.inl (hbegun hp)))
    · exact .inl (.inr hp)

theorem detachedCount_eq_zero {s : State} (h : ∀ x e, s.entry x = some e → e.detached = false) : s.detachedCount = 0 := by
  rw [State.detachedCount, State.countEntries, List.countP_eq_zero]
  intro x _ hx
  obtain ⟨e, he, hd⟩ := (Option.any_eq_true _ _).mp hx
  exact Bool.false_ne_true ((h x e he).symm.trans hd)

/-! ### O17, O18 -/

theorem detached_steady : SteadySelection Entry.detached := fun _ _ h => h.isDetached

theorem issued_steady : SteadySelection Entry.issued := fun _ _ h => decide_eq_decide.mpr h.issued

theorem atTarget_steady : SteadySelection Entry.atTarget := fun e f h =>
  congrArg₂ (· || ·) (issued_steady e f h) (detached_steady e f h)

theorem live_of_issued {e : Entry} (h : e.issued = true) : e.phase.live = true := by
  rw [of_decide_eq_true h]
  rfl

theorem answersTo_of_none (s : State) (i : Initiator) (st : Status) : s.answersTo i (fun _ => false) st = [] := by
  rw [answersTo_eq, List.filterMap_eq_nil_iff]
  intro x _
  unfold State.answerFor
  cases s.entry x <;> rfl

theorem picks_iff (s : State) (sel : Entry → Bool) (x : EntryIdx) : s.picks sel x = true ↔ ∃ e ∈ s.entry x, sel e = true := by
  rw [State.picks, Option.any_eq_true]
  rfl

theorem ite_of_iff {p q : Prop} [Decidable p] [Decidable q] (h : p ↔ q) {a b : Prop} (k : if q then a else b) : if p then a else b := by
  by_cases hp : p
  · rw [if_pos hp]
    rwa [if_pos (h.mp hp)] at k
  · rw [if_neg hp]
    rwa [if_neg fun hq => hp (h.mpr hq)] at k

/-- A freeing claim and the target brought ONLINE after it. -/
theorem sweep_brings {s u : State} {sel answers : Entry → Bool} (hu : OnlyClaims s u) (h : SweptBelow s sel answers 64 u) (n : Nat) :
    BringsOnline s u (u.bringOnline n) n (fun i => s.answersTo i answers .errTarget) ∧
      (∀ x, if s.picks sel x = true then (u.bringOnline n).entry x = none else s.entryKept (u.bringOnline n) x = true) ∧
      (s.TrackerLaws → s.Settles (u.bringOnline n) (s.picks sel)) := by
  obtain ⟨hentry, hsent, hsettled⟩ := h
  rw [take_entryIndices_all] at hsent
  rw [below_all] at hentry hsettled
  have hbrings := bringOnline_brings hu hsent n
  generalize u.bringOnline n = t at hbrings
  refine ⟨hbrings, fun x => ?_, fun hs => ?_⟩
  · have hx := hentry x
    split at hx
    · rename_i hp
      rw [if_pos hp, entry_of_tracker hbrings.tracker, hx]
    · rename_i hp
      rw [if_neg hp]
      exact entryKept_trans hx (entryKept_of_tracker hbrings.tracker x)
  · exact settles_of_settledAs ((hsettled hs).2.congr hbrings.tracker fun c => by rw [hbrings.target]; cases c <;> rfl)

/-- Settles O17: the claim frees what is DETACHED, and the target is brought ONLINE. -/
theorem acknowledgementByTargetState : Obligations.AcknowledgementByTargetState := by
  intro n s hr
  have hack := next_of_high hr fun t => t.takeAck n
  have hnotice := next_of_high hr fun t => t.takeResetNotice n
  refine ⟨fun h => ?_, fun h => ?_, fun h => ?_⟩
  · have hu := acknowledgeClaim_onlyClaims s
    have hnone := none_detached_acknowledgeClaim s
    have hswept : SweptBelow s Entry.detached (fun _ => false) 64 s.acknowledgeClaim := by
      rw [acknowledgeClaim_eq]
      exact sweep_sweptBelow detached_steady (fun _ _ _ => rfl) (fun _ ha => absurd ha Bool.false_ne_true) s
    simp only [State.takeAck, State.takeResetNotice, h, State.acknowledge] at hack hnotice
    obtain ⟨hbrings, hentry, hsettles⟩ := sweep_brings hu hswept n
    rw [show (fun i => s.answersTo i (fun _ => false) .errTarget) = fun _ => [] from funext fun i => answersTo_of_none s i _] at hbrings
    obtain ⟨htracker, htarget, hflag, hhands, hchecks, hframe⟩ := hbrings
    generalize s.acknowledgeClaim.bringOnline n = t at *
    have hexec : ∀ c ∈ [Instr.resyncAck n, .resetNotice n], exec c s = .next t := by
      simp only [List.mem_cons, List.not_mem_nil, or_false, forall_eq_or_imp, forall_eq]
      exact ⟨hack, hnotice⟩
    rw [viewAfter_of_silent] at hchecks
    refine fun c hc => ⟨t, hexec c hc, by rw [htarget], by rw [htarget], by rw [htarget], by rw [htarget], hflag, ?_,
      fun x => ite_of_iff (picks_iff s Entry.detached x).symm (hentry x), hsettles, hhands, hchecks, hframe⟩
    exact (detachedCount_of_tracker htracker).trans (detachedCount_eq_zero hnone)
  · have htake : s.takeAck n = s.logFault (targetFault .unexpectedAck) := by
      cases ht : s.target.state <;> simp_all [State.takeAck]
    rw [htake] at hack
    exact ⟨_, hack, logFault_hands s _, logFault_frame s _⟩
  · have htake : s.takeResetNotice n = s.logFault (targetFault .unexpectedAck) := by simp only [State.takeResetNotice, h]
    rw [htake] at hnotice
    exact ⟨_, hnotice, logFault_hands s _, logFault_frame s _⟩

theorem takeResetNotice_of_present {s : State} (h : s.target.state = .online ∨ s.target.state = .suspect) (n : Nat) :
    s.takeResetNotice n = s.noticeClaim.bringOnline n := by
  rcases h with h | h <;> simp only [State.takeResetNotice, h, State.restarted]

/-- Settles O18: the claim answers what is ISSUED and frees all that was at the target, and the target is brought ONLINE. -/
theorem resetNoticeRestartsTarget : Obligations.ResetNoticeRestartsTarget := by
  intro n s hr hpresent
  have hnext := next_of_high hr fun t => t.takeResetNotice n
  have hnone := none_detached_noticeClaim s
  have hswept : SweptBelow s Entry.atTarget Entry.issued 64 s.noticeClaim := by
    rw [noticeClaim_eq]
    exact sweep_sweptBelow atTarget_steady issued_steady
      (fun e he => ⟨by rw [Entry.issued] at he; rw [Entry.atTarget, he]; rfl, live_of_issued he⟩) s
  rw [takeResetNotice_of_present hpresent] at hnext
  obtain ⟨⟨htracker, htarget, hflag, hhands, hchecks, hframe⟩, hentry, hsettles⟩ := sweep_brings (noticeClaim_onlyClaims s) hswept n
  generalize s.noticeClaim.bringOnline n = t at *
  have hpicks : ∀ x, s.picks Entry.atTarget x = true ↔ ∃ e ∈ s.entry x, e.phase = .issued ∨ e.phase.isDetached = true := fun x => by
    simp only [picks_iff, Entry.atTarget, Bool.or_eq_true, decide_eq_true_eq]
  refine ⟨t, hnext, by rw [htarget], by rw [htarget], by rw [htarget], by rw [htarget], hflag, ?_,
    fun x => ite_of_iff (hpicks x).symm (hentry x), hsettles, hchecks, hhands, hframe⟩
  exact (detachedCount_of_tracker htracker).trans (detachedCount_eq_zero hnone)

end Sys2Proof.Machine
end

section
/-!
The target taken away: RESYNCING by TARGET_RESYNC (R22, R110), OFFLINE by TARGET_OFFLINE or the resync wait expiry (R21, R108, R109, R112),
and O23 and O31.
-/

namespace Sys2Proof.Machine

/-! ### Checks told of other states -/

/-- What a check found and did, told from an earlier state with the same flag and the same monitor. -/
theorem checks_congr_left {s s' t : State} {did : Bool} {v : Initiator → PortView} {rs : List Report} (h : s'.Checks t did v rs)
    (hflag : s'.flag .budgetWait = s.flag .budgetWait) (hmonitor : s'.monitor = s.monitor) : s.Checks t did v rs := by
  obtain ⟨hview, hbudget, hcounts⟩ := h
  refine ⟨hview, hflag ▸ hbudget, fun hm c => ?_⟩
  have hgain := hcounts (hmonitor.symm ▸ hm) c
  unfold State.counter at hgain ⊢
  rwa [hmonitor] at hgain

/-- What a check found and did, told of the command's completion that follows it. -/
theorem checks_complete {s t : State} {did : Bool} {v : Initiator → PortView} {rs : List Report} (h : s.Checks t did v rs) (code : Word) :
    s.Checks (t.complete code .done) did v rs := by
  rw [complete_of_done]
  exact checks_congr h rfl (verdict_congr rfl rfl rfl rfl rfl) rfl rfl

/-! ### The start of a resynchronisation (R22, R110) -/

theorem resyncClaim_eq (s : State) : s.resyncClaim = (s.claim (fun _ e => e.issued) (some .errTarget) .resync).1 := rfl

/-- What the resync claim makes of an entry (R22). -/
def Entry.resynced (e : Entry) : Entry := if e.issued then e.detach .resync else e

/-- The resync claim detaches the ISSUED entries, and leaves the others and the target port (R15, R22). -/
theorem resyncClaim_detaches (s : State) :
    (∀ x, s.resyncClaim.entry x = (s.entry x).map Entry.resynced) ∧ s.resyncClaim.target = s.target := by
  have h := claim_induction (s := s) (sel := fun _ e => e.issued) (a := some .errTarget) (c := .resync)
    (P := fun n u _ => (∀ x : EntryIdx, u.entry x = if x.val < n then (s.entry x).map Entry.resynced else s.entry x) ∧ u.target = s.target)
    ⟨fun x => (if_neg (Nat.not_lt_zero _)).symm, rfl⟩ fun k u l ⟨hentry, htarget⟩ => ?_
  · rw [resyncClaim_eq]
    exact ⟨fun x => (h.1 x).trans (if_pos x.isLt), h.2⟩
  have hk : u.entry k = s.entry k := (hentry k).trans (if_neg (Nat.lt_irrefl _))
  have hsucc : ∀ x : EntryIdx, x ≠ k → (x.val < k.val + 1 ↔ x.val < k.val) := fun x hx => by
    have hne : x.val ≠ k.val := fun h => hx (Fin.ext h)
    omega
  by_cases hi : ∃ e, s.entry k = some e ∧ e.issued = true
  · obtain ⟨e, hx, hie⟩ := hi
    rw [settleEntry_of_issued _ _ _ u l k (hk.trans hx) hie (of_decide_eq_true hie)]
    refine ⟨fun x => ?_, ?_⟩
    · rw [State.detachEntry, entry_setEntry, entry_answerWith]
      by_cases hxk : k = x
      · rw [if_pos hxk, ← hxk, if_pos (Nat.lt_succ_self _), hx, Option.map_some, Entry.resynced, if_pos hie]
      · rw [if_neg hxk, hentry]
        simp only [hsucc x (Ne.symm hxk)]
    · exact (answerWith_target u _ e).trans htarget
  · have hpass : ∀ e, u.entry k = some e → e.issued = false ∨ e.phase.isDetached = true := fun e he =>
      .inl (Bool.eq_false_iff.mpr fun hie => hi ⟨e, hk.symm.trans he, hie⟩)
    rw [settleEntry_of_pass _ _ _ u l k hpass]
    refine ⟨fun x => ?_, htarget⟩
    rw [hentry]
    by_cases hxk : x = k
    · rw [hxk, if_neg (Nat.lt_irrefl _), if_pos (Nat.lt_succ_self _)]
      cases hx : s.entry k with
      | none => rfl
      | some e =>
        rw [Option.map_some, Entry.resynced, if_neg fun hie => hi ⟨e, hx, hie⟩]
    · simp only [hsucc x hxk]

theorem sentTo_resyncClaim (s : State) (i : Initiator) :
    s.resyncClaim.sentTo i = s.sentTo i ++ s.answersTo i Entry.issued .errTarget := by
  obtain ⟨-, -, hsent⟩ := claim_claimedBelow issued_steady .errTarget .resync s
  rw [resyncClaim_eq, hsent, take_entryIndices_all, answersTo_eq]

/-- What the resync claim may change: the entries held, all of which `held` lists, and the links. -/
theorem resyncClaim_frame {s : State} {held : List Piece} (hheld : ∀ x, s.entry x ≠ none → .entry x ∈ held) :
    s.Frame s.resyncClaim (held ++ initiators.map .link) := by
  obtain ⟨hentry, htarget⟩ := resyncClaim_detaches s
  have hclaim := (resyncClaim_onlyClaims s).frame
  generalize s.resyncClaim = u at *
  refine frame_narrow hclaim fun p hp hn => ?_
  rcases List.mem_append.mp hp with hp | hp
  · rw [Piece.ofClaim, List.mem_cons, List.mem_cons] at hp
    rcases hp with rfl | rfl | hp
    · exact decide_eq_true (congrArg TargetPort.highQueue htarget)
    · exact decide_eq_true (congrArg TargetPort.normalQueue htarget)
    · obtain ⟨x, -, rfl⟩ := List.mem_map.mp hp
      have hfree : s.entry x = none := by
        by_contra hx
        exact hn (List.mem_append_left _ (hheld x hx))
      refine decide_eq_true ?_
      rw [hentry, hfree]
      rfl
  · exact absurd (List.mem_append_right _ hp) hn

/-! ### The target port in its new state, and the heads checked -/

/-- The target port in its new state without credit, `sent` sent to the target. -/
def State.leftFor (u : State) (st : TargetState) (timer : Option RunningTimer) (sent : List ToTarget) : State :=
  { u.retarget st 0 timer with links := { u.links with toTarget := u.links.toTarget ++ sent } }

/-- The target port in its new state and TARGET_STATE reported, the heads not yet checked. -/
def State.movedTo (u : State) (st : TargetState) (timer : Option RunningTimer) (sent : List ToTarget) : State :=
  (u.leftFor st timer sent).raise .targetState

section
variable (u : State) (st : TargetState) (timer : Option RunningTimer) (sent : List ToTarget)

theorem movedTo_target : (u.movedTo st timer sent).target = { u.target with state := st, credits := 0, resyncTimer := timer } :=
  State.raise_target ..

theorem movedTo_flag (c : Cause) : (u.movedTo st timer sent).flag c = (u.flag c || decide (c = .targetState)) := flag_raise ..

theorem leftFor_frame : u.Frame (u.leftFor st timer sent)
    ([.targetState, .credits, .resyncTimer] ++ if sent = [] then [] else [.targetLink]) := by
  refine ⟨rfl, fun p hp => ?_⟩
  cases p with
  | targetState | credits | resyncTimer => exact absurd (by simp) hp
  | targetLink =>
    have hnone : sent = [] := by
      by_contra h
      exact hp (by simp [h])
    exact decide_eq_true (by rw [hnone, State.leftFor, List.append_nil])
  | histogramIndex => exact decide_eq_true ⟨rfl, rfl⟩
  | _ => exact decide_eq_true rfl

theorem movedTo_frame : u.Frame (u.movedTo st timer sent)
    ([.targetState, .credits, .resyncTimer] ++ (if sent = [] then [] else [.targetLink]) ++ [.flag .targetState]) :=
  frame_trans (leftFor_frame u st timer sent) (raise_frame _ .targetState)

end

/-- What a claim, the target port's new state and the re-check do on the way from `s` through the claimed state `u` to `t`. -/
structure LeavesTarget (s u t : State) (st : TargetState) (timer : Option RunningTimer) (sent : List ToTarget)
    (answers : Initiator → List ToInitiator) : Prop where
  tracker : t.tracker = u.tracker
  target : t.target = { u.target with state := st, credits := 0, resyncTimer := timer }
  toTarget : t.links.toTarget = u.links.toTarget ++ sent
  flag : t.flag .targetState = true
  refused : t.flag .commandRefused = s.flag .commandRefused
  checks : s.Checks t true (s.viewAfter answers)

theorem movedTo_leavesTarget {s u : State} (hu : OnlyClaims s u) {answers : Initiator → List ToInitiator}
    (hsent : ∀ i, u.sentTo i = s.sentTo i ++ answers i) (st : TargetState) (timer : Option RunningTimer) (sent : List ToTarget) :
    LeavesTarget s u (u.movedTo st timer sent).recheck st timer sent answers := by
  have hflag := movedTo_flag u st timer sent
  have honly := recheck_onlyHeads (u.movedTo st timer sent)
  have hkept : ∀ c, c ≠ .targetState → (u.movedTo st timer sent).flag c = u.flag c := fun c hc => by
    rw [hflag, decide_eq_false hc, Bool.or_false]
  refine ⟨honly.tracker, honly.target.trans (movedTo_target u st timer sent), honly.toTarget, ?_, ?_,
    checks_of_claim hu hsent rfl (hkept _ (by simp)) rfl⟩
  · rw [honly.flag .targetState (by simp) (by simp), hflag, decide_eq_true rfl, Bool.or_true]
  · rw [honly.flag .commandRefused (by simp) (by simp), hkept _ (by simp), flag_of_interrupts hu.interrupts]

/-- A command's completion leaves all of it. -/
theorem LeavesTarget.complete {s u t : State} {st : TargetState} {timer : Option RunningTimer} {sent : List ToTarget}
    {answers : Initiator → List ToInitiator} (h : LeavesTarget s u t st timer sent answers) (code : Word) :
    LeavesTarget s u (t.complete code .done) st timer sent answers := by
  have hchecks := checks_complete h.checks code
  rw [complete_of_done] at hchecks ⊢
  exact ⟨h.tracker, h.target, h.toTarget, h.flag, h.refused, hchecks⟩

/-- The links that a claim answers on are among those a re-check may answer on. -/
theorem movedTo_recheck_frame {s u : State} {claimed changed : List Piece} (hclaim : s.Frame u (claimed ++ initiators.map .link))
    (st : TargetState) (timer : Option RunningTimer) (sent : List ToTarget)
    (hchanged : [.targetState, .credits, .resyncTimer] ++ (if sent = [] then [] else [.targetLink]) ++ [.flag .targetState] ⊆ changed) :
    s.Frame (u.movedTo st timer sent).recheck (changed ++ claimed ++ Piece.ofRecheck) := by
  refine frame_mono (frame_trans (frame_trans hclaim (movedTo_frame u st timer sent)) (recheck_onlyHeads _).frame) fun p hp => ?_
  rcases List.mem_append.mp hp with hp | hp
  · rcases List.mem_append.mp hp with hp | hp
    · rcases List.mem_append.mp hp with hp | hp
      · exact List.mem_append_left _ (List.mem_append_right _ hp)
      · exact List.mem_append_right _ (links_subset_ofRecheck hp)
    · exact List.mem_append_left _ (List.mem_append_left _ (hchanged hp))
  · exact List.mem_append_right _ hp

/-! ### O31 -/

theorem startResync_movesTo (s : State) :
    s.startResync = (s.resyncClaim.movedTo .resyncing (some { ticks := s.target.resyncWait }) [.resync]).recheck := by
  rw [startResync_eq]
  generalize s.resyncClaim = u
  rfl

/-- Settles O31: the claim detaches what is ISSUED, the target port starts the wait, and the heads are checked again. -/
theorem targetResyncStarts : Obligations.TargetResyncStarts := by
  intro s hr
  have hnext := next_of_high hr State.commandResync
  refine ⟨fun h => ?_, fun h => ?_⟩
  · rw [State.commandResync, if_neg h, startResync_movesTo] at hnext
    obtain ⟨hentry, -⟩ := resyncClaim_detaches s
    have hclaim := resyncClaim_frame (s := s) (held := (entryIndices.filter fun x => (s.entry x).isSome).map .entry) fun x hx =>
      List.mem_map_of_mem (List.mem_filter.mpr ⟨mem_entryIndices x, Option.isSome_iff_ne_none.mpr hx⟩)
    have hframe := movedTo_recheck_frame hclaim .resyncing (some { ticks := s.target.resyncWait }) [.resync]
      (changed := [.targetState, .credits, .resyncTimer, .targetLink, .flag .targetState]) (by decide)
    have hleaves := movedTo_leavesTarget (resyncClaim_onlyClaims s) (sentTo_resyncClaim s) .resyncing
      (some { ticks := s.target.resyncWait }) [.resync]
    have htoTargetClaim := (resyncClaim_onlyClaims s).toTarget
    generalize s.resyncClaim = u at *
    generalize (u.movedTo _ _ _).recheck = t at *
    obtain ⟨htracker, htarget, htoTarget, hflag, -, hchecks⟩ := hleaves.complete 0x10
    rw [htoTargetClaim] at htoTarget
    refine ⟨t.complete 0x10 .done, hnext, complete_completes hleaves.refused _ _, by rw [htarget], by rw [htarget],
      by rw [htarget], htoTarget, hflag, fun x e hx => ?_, hchecks, frame_trans hframe (complete_frame _ _ _)⟩
    have hresynced : (t.complete 0x10 .done).entry x = some e.resynced := by
      rw [entry_of_tracker htracker, hentry, Option.mem_def.mp hx, Option.map_some]
    rw [hresynced, Entry.resynced]
    split <;> simp_all [Entry.issued, Entry.detach]
  · rw [State.commandResync, if_pos h] at hnext
    exact ⟨_, hnext, complete_completes rfl _ _, complete_frame _ _ _⟩

/-! ### O23 -/

theorem enterOffline_movesTo (s : State) : s.enterOffline = (s.offlineClaim.movedTo .offline none []).recheck := by
  rw [enterOffline_eq]
  generalize s.offlineClaim = u
  rw [State.movedTo, State.leftFor, List.append_nil]
  rfl

theorem offlineClaim_eq (s : State) : s.offlineClaim = (s.claim (fun _ _ => true) (some .errTarget) .offline).1 := rfl

theorem every_steady : SteadySelection fun _ => true := fun _ _ _ => rfl

theorem sentTo_offlineClaim (s : State) (i : Initiator) :
    s.offlineClaim.sentTo i = s.sentTo i ++ s.answersTo i (fun _ => true) .errTarget := by
  obtain ⟨-, -, hsent⟩ := claim_claimedBelow every_steady .errTarget .offline s
  rw [offlineClaim_eq, hsent, take_entryIndices_all, answersTo_eq]

/-- With no live entry left, no entry is in an issue queue. -/
theorem queues_empty_of_offlineClaim {s : State} (h : s.offlineClaim.QueuesHoldReady) :
    s.offlineClaim.target.highQueue = [] ∧ s.offlineClaim.target.normalQueue = [] := by
  obtain ⟨-, -, hholds⟩ := h
  have hnone : ∀ x (p : Entry → Bool), ¬((s.offlineClaim.entry x).any fun e => e.phase == .ready && p e) = true := fun x p hany => by
    obtain ⟨e, he, hready⟩ := Option.any_eq_true _ _ |>.mp hany
    have hdetached := isDetached_of_offlineClaim s x e he
    rw [eq_of_beq (Bool.and_eq_true_iff.mp hready).1] at hdetached
    exact Bool.false_ne_true hdetached
  exact ⟨List.eq_nil_iff_forall_not_mem.mpr fun x hx => hnone x _ ((hholds x).1.mp hx),
    List.eq_nil_iff_forall_not_mem.mpr fun x hx => hnone x _ ((hholds x).2.mp hx)⟩

/-- What the way into OFFLINE leaves of the tracker and the issue queues (R9, R15, R21). -/
structure SettledOffline (s t : State) : Prop where
  queues : s.TrackerLaws → t.target.highQueue = [] ∧ t.target.normalQueue = []
  entries : ∀ x : EntryIdx, s.settledBy t (fun _ => true) .offline x = true
  exactly : s.TrackerLaws → s.SettlesLive t (fun _ => true) .offline

theorem LeavesTarget.settledOffline {s t : State} {answers : Initiator → List ToInitiator}
    (h : LeavesTarget s s.offlineClaim t .offline none [] answers) : SettledOffline s t := by
  have hhigh : t.target.highQueue = s.offlineClaim.target.highQueue := by rw [h.target]
  have hnormal : t.target.normalQueue = s.offlineClaim.target.normalQueue := by rw [h.target]
  have hentry := entry_of_tracker h.tracker
  have hexactly := fun hs : s.TrackerLaws => claim_claimedExactly every_steady .errTarget .offline hs
  have hsettled := claim_settledBy every_steady (some .errTarget) .offline s
  rw [← offlineClaim_eq] at hsettled hexactly
  refine ⟨fun hs => ?_, fun x => settledBy_trans (hsettled x) (entryKept_of_tracker h.tracker x), fun hs => ?_⟩
  · rw [hhigh, hnormal]
    exact queues_empty_of_offlineClaim (hexactly hs).laws.2.2
  · obtain ⟨he, hh, hn⟩ := settlesLive_of_claimedExactly (hexactly hs)
    exact ⟨fun y => (hentry y).trans (he y), hhigh.trans hh, hnormal.trans hn⟩

theorem enterOffline_leavesTarget (s : State) :
    LeavesTarget s s.offlineClaim s.enterOffline .offline none [] fun i => s.answersTo i (fun _ => true) .errTarget := by
  rw [enterOffline_movesTo]
  exact movedTo_leavesTarget (offlineClaim_onlyClaims s) (sentTo_offlineClaim s) .offline none []

theorem enterOffline_frame (s : State) :
    s.Frame s.enterOffline ([.targetState, .credits, .resyncTimer, .flag .targetState] ++ Piece.ofClaim ++ Piece.ofRecheck) := by
  rw [enterOffline_movesTo]
  exact movedTo_recheck_frame (offlineClaim_onlyClaims s).frame .offline none [] (by decide)

theorem resyncWaitExpiry_of_due {s : State} (h : s.target.expiryDue = true) :
    s.resyncWaitExpiry = (s.logFault (targetFault .resyncTimeout)).enterOffline := if_pos h

theorem resyncWaitExpiry_of_not_due {s : State} (h : s.target.expiryDue = false) : s.resyncWaitExpiry = s :=
  if_neg (Bool.eq_false_iff.mp h)

theorem resyncWaitExpiry_frame (s : State) : s.Frame s.resyncWaitExpiry
    ([.targetState, .credits, .resyncTimer, .flag .targetState] ++ Piece.ofClaim ++ Piece.ofRecheck ++ Piece.ofFault) := by
  cases h : s.target.expiryDue with
  | false =>
    rw [resyncWaitExpiry_of_not_due h]
    exact frame_refl s _
  | true =>
    rw [resyncWaitExpiry_of_due h]
    exact frame_mono (frame_trans (logFault_frame s _) (enterOffline_frame _)) fun p hp =>
      List.mem_append.mpr (List.mem_append.mp hp).symm

theorem exec_resyncWaitExpiry {s : State} (hr : s.rstN = true) (ho : s.sampleOwed = false) :
    exec .resyncWaitExpiry s = .next s.resyncWaitExpiry := by
  have howed : s.resyncWaitExpiry.sampleOwed = false :=
    (sampleOwed_of_frame (resyncWaitExpiry_frame s) (by simp [Piece.ofClaim, Piece.ofRecheck, Piece.ofReport, Piece.ofFault])).trans ho
  refine (next_of_high hr State.takeResyncWaitExpiry).trans (congrArg Host.Outcome.next ?_)
  rw [State.takeResyncWaitExpiry, offerSample_of_not_owed _ howed]

/-- A record handed before the claim changes nothing of what the claim reads. -/
theorem SettledOffline.of_logFault {s t : State} {r : FaultReport} (h : SettledOffline (s.logFault r) t) : SettledOffline s t := by
  obtain ⟨l, f, honly⟩ := logFault_only s r
  rw [honly] at h
  exact ⟨h.queues, h.entries, h.exactly⟩

/-- Nor of what a check of the heads is told from. -/
theorem checks_of_logFault {s t : State} {r : FaultReport}
    (h : (s.logFault r).Checks t true ((s.logFault r).viewAfter fun i => (s.logFault r).answersTo i (fun _ => true) .errTarget)) :
    s.Checks t true (s.viewAfter fun i => s.answersTo i (fun _ => true) .errTarget) := by
  have hflag : (s.logFault r).flag .budgetWait = s.flag .budgetWait := by
    rw [flag_logFault]
    split <;> simp
  have hchecks := checks_congr_left h hflag (logFault_monitor s r)
  obtain ⟨l, f, honly⟩ := logFault_only s r
  rw [honly] at hchecks
  exact hchecks

/-- Settles O23: the claim takes every live entry, the target port is left OFFLINE, and the heads are checked again. -/
theorem targetGoesOffline : Obligations.TargetGoesOffline := by
  intro s hr
  have hnext := next_of_high hr State.commandOffline
  refine ⟨fun ho hstate htimer => ?_, fun ho hnot => ?_, fun h => ?_, fun h => ?_⟩
  · have hexec := exec_resyncWaitExpiry hr ho
    have hframe := resyncWaitExpiry_frame s
    rw [resyncWaitExpiry_of_due ((resyncDue_iff s.target).mpr ⟨hstate, htimer⟩)] at hexec hframe
    have hleaves := enterOffline_leavesTarget (s.logFault (targetFault .resyncTimeout))
    have hafter := enterOffline_frame (s.logFault (targetFault .resyncTimeout))
    have hhands : s.HandsFault (s.logFault (targetFault .resyncTimeout)).enterOffline { kind := .resyncTimeout, source := .target } :=
      handsFault_of_frames (frame_refl s []) keepsLog_nil (logFault_hands s _) hafter
        (KeepsLog.append (KeepsLog.append (by simp [KeepsLog]) keepsLog_ofClaim) keepsLog_ofRecheck)
    obtain ⟨hqueues, hentries, hexactly⟩ := hleaves.settledOffline.of_logFault
    obtain ⟨-, htarget, -, hflag, -, hchecks⟩ := hleaves
    exact ⟨_, hexec, hhands, by rw [htarget], by rw [htarget], by rw [htarget], hflag, hqueues, hentries, hexactly,
      checks_of_logFault hchecks, hframe⟩
  · have hdue : s.target.expiryDue = false := Bool.eq_false_iff.mpr fun hd => hnot ((resyncDue_iff s.target).mp hd)
    rw [exec_resyncWaitExpiry hr ho, resyncWaitExpiry_of_not_due hdue]
  · rw [State.commandOffline, if_neg h] at hnext
    have hleaves := enterOffline_leavesTarget s
    have hframe := enterOffline_frame s
    obtain ⟨hqueues, hentries, hexactly⟩ := (hleaves.complete 0x11).settledOffline
    obtain ⟨-, htarget, -, hflag, -, hchecks⟩ := hleaves.complete 0x11
    exact ⟨s.enterOffline.complete 0x11 .done, hnext, complete_completes hleaves.refused _ _, by rw [htarget],
      by rw [htarget], by rw [htarget], hflag, hqueues, hentries, hexactly, hchecks, frame_trans hframe (complete_frame _ _ _)⟩
  · rw [State.commandOffline, if_pos h] at hnext
    exact ⟨_, hnext, complete_completes rfl _ _, complete_frame _ _ _⟩

end Sys2Proof.Machine
end

section
/-!
The words of the status registers (11.2): a word of one value, of two bytes or of flags, what each address range reads, and O49.
-/

namespace Sys2Proof.Machine

/-! ### Words of one value, of two bytes and of flags -/

theorem pack_value {a : Nat} (h : a < 65536) : (pack [(a, 0)]).toNat = a := by
  rw [pack_toNat _ (by simpa using h)]
  simp

theorem pack_bytes {a b : Nat} (ha : a < 256) (hb : b < 256) : (pack [(a, 0), (b, 8)]).toNat = a + 256 * b := by
  rw [pack_toNat _ (by simp; omega)]
  simp
  omega

/-- A word of six flags holds flag `k` at place `k`, and 0 beyond them. -/
theorem pack_flags (f : Fin 6 → Bool) (k : Nat) :
    (pack ((List.finRange 6).map fun c => ((f c).toNat, c.val))).getLsbD k = if h : k < 6 then f ⟨k, h⟩ else false := by
  have hsum : (((List.finRange 6).map fun c => ((f c).toNat, c.val)).map fun p => p.1 * 2 ^ p.2).sum = Nat.ofBits f := by
    simp [Nat.ofBits, List.finRange_succ, Fin.foldr_succ]
    omega
  rw [pack, hsum, BitVec.getLsbD_ofNat]
  by_cases h : k < 6
  · rw [dif_pos h, Nat.testBit_ofBits_lt f k h, decide_eq_true (by omega), Bool.true_and]
  · rw [dif_neg h, Nat.testBit_ofBits_ge f k (by omega), Bool.and_false]

/-! ### What each range of addresses reads (R187) -/

theorem readWord_fault (s : State) {a : BitVec 8} (hl : 0x40 ≤ a.toNat) (hu : a.toNat ≤ 0x48) :
    s.readWord a = faultWord s.faultLog (a.toNat - 0x40) := by
  unfold State.readWord
  simp only
  iterate 15 rw [if_neg (by omega)]
  rw [if_pos ⟨hl, hu⟩]

theorem readWord_port (s : State) (i : Initiator) {n k : Nat} (hn : n = 0x50 + 4 * i.val + k) (hk : k < 4) :
    s.readWord (BitVec.ofNat 8 n) = s.portWord i k := by
  have hi := i.isLt
  have ha : (BitVec.ofNat 8 n).toNat = n := by
    rw [BitVec.toNat_ofNat]
    omega
  have hport : Fin.ofNat 4 ((n - 0x50) / 4) = i := Fin.ext (by rw [Fin.val_ofNat]; omega)
  have hword : (n - 0x50) % 4 = k := by omega
  unfold State.readWord
  simp only [ha]
  iterate 16 rw [if_neg (by omega)]
  rw [if_pos (by omega), hport, hword]

theorem readWord_edge (s : State) (k : Fin 7) : s.readWord (BitVec.ofNat 8 (0xA0 + k)) = pack [(s.monitor.edges[k], 0)] := by
  have hk := k.isLt
  have ha : (BitVec.ofNat 8 (0xA0 + k)).toNat = 0xA0 + k := by
    rw [BitVec.toNat_ofNat]
    omega
  unfold State.readWord
  simp only [ha]
  iterate 21 rw [if_neg (by omega)]
  rw [if_pos (by omega)]
  simp

/-- An address in none of the ranges of the map reads 0. -/
theorem readWord_unmapped (s : State) {a : BitVec 8}
    (h : ∀ range ∈ [(0x00, 0x01), (0x08, 0x0D), (0x10, 0x11), (0x14, 0x16), (0x18, 0x1F), (0x20, 0x34), (0x40, 0x48), (0x50, 0x5F),
      (0x60, 0x64), (0x80, 0x97), (0x98, 0x99), (0xA0, 0xA6), (0xA8, 0xA9)], ¬(range.1 ≤ a.toNat ∧ a.toNat ≤ range.2)) :
    s.readWord a = 0 := by
  simp only [List.mem_cons, List.not_mem_nil, or_false, forall_eq_or_imp, forall_eq] at h
  unfold State.readWord
  simp only
  iterate 24 rw [if_neg (by omega)]

/-! ### Bounds of the fields -/

theorem countEntries_le (s : State) (p : Entry → Bool) : s.countEntries p ≤ 64 := by
  unfold State.countEntries
  exact List.countP_le_length.trans (by simp [entryIndices])

theorem length_le_of_nodup {q : List EntryIdx} (h : q.Nodup) : q.length ≤ 64 := by simpa using h.length_le_card

/-- A port holds no more credits, and no more requests, than 8 (R40). -/
theorem port_le_of_creditLaw {s : State} (h : s.CreditLaw) (i : Initiator) : (s.port i).granted ≤ 8 ∧ (s.port i).queue.length ≤ 8 := by
  obtain ⟨hopen, hshut, hempty⟩ := h i
  have hshort : (s.port i).state ≠ .active → (s.port i).queue.length = 0 := fun h => congrArg List.length (hempty h)
  cases hp : (s.port i).state with
  | disabled =>
    have hnone := hshut (.inl hp)
    have hqueue := hshort (by simp [hp])
    omega
  | fenced =>
    have hnone := hshut (.inr hp)
    have hqueue := hshort (by simp [hp])
    omega
  | active =>
    have hsum := hopen (.inl hp)
    omega
  | draining =>
    have hsum := hopen (.inr hp)
    omega

/-! ### The words, field by field -/

section
variable (s : State)

theorem readWord_flags (c : Cause) : (s.readWord 0x10).getLsbD c.place = s.flag c := by
  have hc := c.place_lt
  have hw : s.readWord 0x10 = s.interrupts.flags.setWidth 16 := rfl
  rw [hw, BitVec.getLsbD_setWidth, decide_eq_true (by omega), Bool.true_and]
  rfl

theorem readWord_flags_top : (s.readWord 0x10).getLsbD 15 = false := by
  have hw : s.readWord 0x10 = s.interrupts.flags.setWidth 16 := rfl
  rw [hw, BitVec.getLsbD_setWidth, BitVec.getLsbD_of_ge _ _ (Nat.le_refl 15), Bool.and_false]

theorem readWord_status : (s.readWord 0x16).toNat =
    (match s.management.status with | .done => 0 | .refusedState => 1 | .invalid => 2 | .unknown => 3) +
      256 * (s.management.command.toNat % 256) := by
  have hw : s.readWord 0x16 = pack [(s.management.status.code, 0), (bits s.management.command 0 8, 8)] := rfl
  rw [hw, bits_low, pack_bytes (by cases s.management.status <;> decide) (Nat.mod_lt _ (by decide))]
  cases s.management.status <;> rfl

variable {s}

theorem portWord_state (h : s.CreditLaw) (i : Initiator) : (s.portWord i 0).toNat =
    (match (s.port i).state with | .disabled => 0 | .active => 1 | .draining => 2 | .fenced => 3) + 256 * (s.port i).granted := by
  obtain ⟨hgranted, -⟩ := port_le_of_creditLaw h i
  have hw : s.portWord i 0 = pack [((s.port i).state.code, 0), ((s.port i).granted, 8)] := rfl
  rw [hw, pack_bytes (by cases (s.port i).state <;> decide) (by omega)]
  cases (s.port i).state <;> rfl

/-- The bits of the head status and of its wait reason (log entry 18). -/
theorem headCodes_eq (st : HeadStatus) : 256 * st.code + 4096 * st.reasonCode =
    match st with
    | .noHead => 0 | .eligible => 256 | .waiting .target => 512 | .waiting .halt => 512 + 4096
    | .waiting .budget => 512 + 8192 | .waiting .quota => 512 + 12288 := by
  match st with
  | .noHead | .eligible | .waiting .target | .waiting .halt | .waiting .budget | .waiting .quota => rfl

theorem portWord_head (h : s.CreditLaw) (i : Initiator) : (s.portWord i 1).toNat = (s.port i).queue.length +
    16 * (match (s.port i).queue with | [] => 0 | r :: _ => r.tag.val) +
    (match s.head i with
     | .noHead => 0 | .eligible => 256 | .waiting .target => 512 | .waiting .halt => 512 + 4096
     | .waiting .budget => 512 + 8192 | .waiting .quota => 512 + 12288) := by
  obtain ⟨-, hlength⟩ := port_le_of_creditLaw h i
  have htag : (match (s.port i).queue with | [] => 0 | r :: _ => r.tag.val) = ((((s.port i).queue.head?.map Request.tag).getD 0 : Tag)).val := by
    cases (s.port i).queue <;> rfl
  have hw : s.portWord i 1 = pack [((s.port i).queue.length, 0), ((((s.port i).queue.head?.map Request.tag).getD 0 : Tag), 4),
    ((s.head i).code, 8), ((s.head i).reasonCode, 12)] := rfl
  have htagLt := (((s.port i).queue.head?.map Request.tag).getD 0 : Tag).isLt
  have hcode : (s.head i).code ≤ 2 := by cases s.head i <;> simp [HeadStatus.code]
  have hreason : (s.head i).reasonCode ≤ 3 := by
    cases s.head i with
    | waiting r => cases r <;> simp [HeadStatus.reasonCode, WaitReason.code]
    | _ => simp [HeadStatus.reasonCode]
  rw [htag, ← headCodes_eq, hw, pack_toNat _ (by simp; omega)]
  simp
  omega

theorem portWord_outstanding (i : Initiator) : (s.portWord i 2).toNat = s.outstanding i :=
  pack_value (Nat.lt_of_le_of_lt (countEntries_le s _) (by decide))

theorem portWord_inUse (i : Initiator) : (s.portWord i 3).toNat = s.inUse i :=
  pack_value (Nat.lt_of_le_of_lt (countEntries_le s _) (by decide))

theorem queueWord_toNat (q : List EntryIdx) :
    q.Nodup → (queueWord q).toNat = q.length + 256 * (match q with | [] => 0 | x :: _ => x.val) := by
  intro h
  have hlength := length_le_of_nodup h
  rw [queueWord, pack_bytes (by omega) (Nat.lt_trans (q.head?.getD 0).isLt (by decide))]
  cases q <;> rfl

theorem targetWord_state (h : s.TargetCreditLaw) : (s.targetWord 0).toNat =
    (match s.target.state with | .offline => 0 | .resyncing => 1 | .online => 2 | .suspect => 3) + 256 * s.target.credits := by
  have hcredits := h.1
  have hw : s.targetWord 0 = pack [(s.target.state.code, 0), (s.target.credits, 8)] := rfl
  rw [hw, pack_bytes (by cases s.target.state <;> decide) (by omega)]
  cases s.target.state <;> rfl

theorem targetWord_counts (h : s.target.consecutiveHigh ≤ 4) :
    (s.targetWord 3).toNat = s.target.consecutiveHigh + 256 * s.detachedCount :=
  pack_bytes (by omega) (Nat.lt_of_le_of_lt (countEntries_le s _) (by decide))

theorem targetWord_timer (h : ∀ n ∈ s.target.resyncTimer, n.ticks ≤ 65535) :
    (s.targetWord 4).toNat = (match s.target.resyncTimer with | some n => n.ticks | none => 0) := by
  have hw : s.targetWord 4 = pack [((s.target.resyncTimer.map RunningTimer.ticks).getD 0, 0)] := rfl
  rw [hw]
  cases ht : s.target.resyncTimer with
  | none => rfl
  | some n =>
    have hticks := h n ht
    exact pack_value (by simp only [Option.map_some, Option.getD_some]; omega)

end

/-! ### The fault-head registers (R180) -/

/-- An empty log shows the source DEVICE and nothing else. -/
theorem faultWord_nil {k : Nat} (h : k ≠ 1) : faultWord [] k = 0 := if_neg h

section
variable (f : FaultRecord) (l : List FaultRecord)

theorem faultWord_count (h : (f :: l).length ≤ 16) : (faultWord (f :: l) 0).toNat = (f :: l).length + 32768 := by
  have hw : faultWord (f :: l) 0 = pack [((f :: l).length, 0), (1, 15)] := rfl
  generalize (f :: l).length = n at *
  rw [hw, pack_toNat _ (by simp; omega)]
  simp

theorem faultWord_kind : (faultWord (f :: l) 1).toNat =
    [FaultKind.creditOverrun, .dupTag, .malformed, .linkReset, .strayResponse, .lateResponse, .badResponse, .timeout,
      .targetCreditOverflow, .resyncTimeout, .unexpectedAck].idxOf f.report.kind + 1 +
    256 * (match f.report.source with | .initiator i => i.val | .target => 4) := by
  have hw : faultWord (f :: l) 1 = pack [(f.report.kind.code, 0), (f.report.source.code, 8)] := rfl
  have hkind : f.report.kind.code = [FaultKind.creditOverrun, .dupTag, .malformed, .linkReset, .strayResponse, .lateResponse, .badResponse,
      .timeout, .targetCreditOverflow, .resyncTimeout, .unexpectedAck].idxOf f.report.kind + 1 := by
    cases f.report.kind <;> decide
  have hkindLt : f.report.kind.code < 256 := by cases f.report.kind <;> decide
  have hsource : f.report.source.code < 256 := by
    cases f.report.source with
    | initiator i => exact Nat.lt_trans i.isLt (by decide)
    | target => decide
  rw [← hkind, hw, pack_bytes hkindLt hsource]
  cases f.report.source <;> rfl

theorem faultWord_present : (faultWord (f :: l) 2).toNat = f.report.tag.isSome.toNat + 2 * f.report.entry.isSome.toNat +
    4 * f.report.address.isSome.toNat + 8 * f.report.cause.isSome.toNat + 16 * f.report.expiryState.isSome.toNat := by
  have hw : faultWord (f :: l) 2 = pack [(f.report.tag.isSome.toNat, 0), (f.report.entry.isSome.toNat, 1), (f.report.address.isSome.toNat, 2),
    (f.report.cause.isSome.toNat, 3), (f.report.expiryState.isSome.toNat, 4)] := rfl
  have h0 := f.report.tag.isSome.toNat_le
  have h1 := f.report.entry.isSome.toNat_le
  have h2 := f.report.address.isSome.toNat_le
  have h3 := f.report.cause.isSome.toNat_le
  have h4 := f.report.expiryState.isSome.toNat_le
  rw [hw, pack_toNat _ (by simp; omega)]
  simp
  omega

theorem faultWord_indices : (faultWord (f :: l) 3).toNat = (match f.report.tag with | some g => g.val | none => 0) +
    256 * (match f.report.entry with | some x => x.val | none => 0) := by
  have hw : faultWord (f :: l) 3 = pack [((f.report.tag.getD 0 : Tag), 0), ((f.report.entry.getD 0 : EntryIdx), 8)] := rfl
  rw [hw, pack_bytes (Nat.lt_trans (f.report.tag.getD 0).isLt (by decide)) (Nat.lt_trans (f.report.entry.getD 0).isLt (by decide))]
  cases f.report.tag <;> cases f.report.entry <;> rfl

theorem faultWord_codes : (faultWord (f :: l) 6).toNat =
    (match f.report.cause with
     | none => 0 | some .timeout => 0 | some .fence => 1 | some .linkReset => 2 | some .offline => 3 | some .resync => 4) +
    256 * (match f.report.expiryState with | none => 0 | some .waiting => 0 | some .ready => 1 | some .issued => 2) := by
  have hw : faultWord (f :: l) 6 = pack [((f.report.cause.map DetachCause.code).getD 0, 0),
    ((f.report.expiryState.map ExpiryState.code).getD 0, 8)] := rfl
  have hcause : (f.report.cause.map DetachCause.code).getD 0 =
      match f.report.cause with
      | none => 0 | some .timeout => 0 | some .fence => 1 | some .linkReset => 2 | some .offline => 3 | some .resync => 4 := by
    match f.report.cause with
    | none | some .timeout | some .fence | some .linkReset | some .offline | some .resync => rfl
  have hexpiry : (f.report.expiryState.map ExpiryState.code).getD 0 =
      match f.report.expiryState with | none => 0 | some .waiting => 0 | some .ready => 1 | some .issued => 2 := by
    match f.report.expiryState with
    | none | some .waiting | some .ready | some .issued => rfl
  rw [← hcause, ← hexpiry, hw]
  refine pack_bytes ?_ ?_
  · rw [hcause]
    split <;> decide
  · rw [hexpiry]
    split <;> decide

theorem faultWord_address : (faultWord (f :: l) 5).toNat * 65536 + (faultWord (f :: l) 4).toNat =
    (match f.report.address with | some a => a.toNat | none => 0) := by
  refine (words_join (f.report.address.getD 0)).trans ?_
  cases f.report.address <;> rfl

theorem faultWord_tick : (faultWord (f :: l) 8).toNat * 65536 + (faultWord (f :: l) 7).toNat = f.tick.toNat := words_join f.tick

end

/-! ### O49 -/

/-- Settles O49: each word field by field, and 0 at every address that no range of the map holds. -/
theorem statusRegistersShowState : Obligations.StatusRegistersShowState := by
  intro s hcredit htarget hqueues hranges hconfig
  obtain ⟨hhigh, hnormal, -⟩ := hqueues
  obtain ⟨-, -, -, -, hconsecutive, -, -, -, htimer, -, -, -, hlog, -⟩ := hranges
  obtain ⟨-, -, -, hedges⟩ := hconfig
  refine ⟨rfl, rfl, readWord_flags s, readWord_flags_top s, rfl, readWord_status s, fun i => ⟨?_, ?_, ?_, ?_⟩, targetWord_state htarget,
    queueWord_toNat _ hhigh, queueWord_toNat _ hnormal, targetWord_counts hconsecutive, targetWord_timer fun n hn => (htimer n hn).2.1,
    fun hnone => ?_, fun f hf => ?_, fun k => pack_flags _ k, ?_, fun k => ?_, fun a ha => readWord_unmapped s ha⟩
  · rw [readWord_port s i (n := 0x50 + 4 * i) (k := 0) rfl (by decide)]
    exact portWord_state hcredit i
  · rw [readWord_port s i (k := 1) (by omega) (by decide)]
    exact portWord_head hcredit i
  · rw [readWord_port s i (k := 2) (by omega) (by decide)]
    exact portWord_outstanding i
  · rw [readWord_port s i (k := 3) (by omega) (by decide)]
    exact portWord_inUse i
  · have hfault : ∀ k, faultWord s.faultLog k = faultWord [] k := fun k => by rw [hnone]
    refine ⟨(hfault 0).trans rfl, (hfault 1).trans rfl, fun a hl hu => ?_⟩
    rw [readWord_fault s (by omega) hu, hfault, faultWord_nil (by omega)]
  · obtain ⟨l, hl⟩ : ∃ l, s.faultLog = f :: l := by
      cases h : s.faultLog <;> simp_all
    have hcount := faultWord_count f l (hl ▸ hlog)
    have hkind := faultWord_kind f l
    have hpresent := faultWord_present f l
    have hindices := faultWord_indices f l
    have hcodes := faultWord_codes f l
    have haddress := faultWord_address f l
    have htick := faultWord_tick f l
    rw [← hl] at hcount hkind hpresent hindices hcodes haddress htick
    exact ⟨hcount, hkind, hpresent, hindices, hcodes, haddress, htick⟩
  · have hw : s.readWord 0x99 = pack [(s.monitor.bank.code, 0)] := rfl
    rw [hw]
    cases s.monitor.bank <;> rfl
  · rw [readWord_edge]
    exact pack_value (Nat.lt_succ_of_le (hedges k))

end Sys2Proof.Machine
end

section
/-!
Register accesses of the timebase, the regulation unit and the target port (R85, R112, R114, R122, R123, R166), the idle step (R121), and O2, O43
and O44.
-/

namespace Sys2Proof.Machine

/-! ### O2 -/

/-- Settles O2: a REFCLK period short of the division counts in it, and the one that completes it is the whole tick. -/
theorem idleStepCountsRefclk : Obligations.IdleStepCountsRefclk := by
  intro s hp
  have hidle : step s = .next s.refclk := by rw [step, hp]
  refine ⟨fun hr => ?_, fun hr => by rw [hidle, State.refclk, State.outOfReset_low s _ hr]⟩
  rw [hidle, State.refclk, next_of_high hr, State.countRefclk]
  refine ⟨fun hlt => ?_, fun hge => ?_⟩
  · rw [if_pos hlt]
    refine ⟨_, rfl, rfl, rfl, fun p hp => ?_⟩
    cases p with
    | progress => exact absurd (List.mem_singleton_self _) hp
    | histogramIndex => exact decide_eq_true ⟨rfl, rfl⟩
    | _ => exact decide_eq_true rfl
  · rw [if_neg (Nat.not_lt.mpr hge)]
    exact (next_of_high hr State.tick).symm

/-! ### What the four control registers may change -/

theorem writePrescaler_frame (s : State) (v : Word) : s.Frame (s.writePrescaler v) [.prescaler, .progress] := by
  refine ⟨rfl, fun p hp => ?_⟩
  cases p with
  | prescaler | progress => exact absurd (by simp) hp
  | histogramIndex => exact decide_eq_true ⟨rfl, rfl⟩
  | _ => exact decide_eq_true rfl

theorem writePeriod_frame (s : State) (v : Word) : s.Frame (s.writePeriod v) [.period, .periodTimer] := by
  refine ⟨rfl, fun p hp => ?_⟩
  cases p with
  | period | periodTimer => exact absurd (by simp) hp
  | histogramIndex => exact decide_eq_true ⟨rfl, rfl⟩
  | _ => exact decide_eq_true rfl

theorem writeResyncWait_frame (s : State) (v : Word) : s.Frame (s.writeResyncWait v) [.resyncWait] := by
  refine ⟨rfl, fun p hp => ?_⟩
  cases p with
  | resyncWait => exact absurd (List.mem_singleton_self _) hp
  | histogramIndex => exact decide_eq_true ⟨rfl, rfl⟩
  | _ => exact decide_eq_true rfl

/-! ### The detach limit (R114) -/

/-- The bounded limit in its register, the detached-count rule not yet applied. -/
def State.limitDetached (s : State) (v : Word) : State :=
  { s with target := { s.target with detachLimit := max 1 (min 64 v.toNat) } }

theorem limitDetached_frame (s : State) (v : Word) : s.Frame (s.limitDetached v) [.detachLimit] := by
  refine ⟨rfl, fun p hp => ?_⟩
  cases p with
  | detachLimit => exact absurd (List.mem_singleton_self _) hp
  | histogramIndex => exact decide_eq_true ⟨rfl, rfl⟩
  | _ => exact decide_eq_true rfl

theorem writeDetachLimit_eq (s : State) (v : Word) : s.writeDetachLimit v =
    if (s.limitDetached v).suspectIfReached.target.state ≠ s.target.state then (s.limitDetached v).suspectIfReached.recheck
    else (s.limitDetached v).suspectIfReached := rfl

/-- A limit that the detached count has not reached, or a target that is not ONLINE: the limit alone is written. -/
theorem writeDetachLimit_of_not_reached {s : State} {v : Word}
    (h : ¬(s.target.state = .online ∧ max 1 (min 64 v.toNat) ≤ s.detachedCount)) : s.writeDetachLimit v = s.limitDetached v := by
  have hstay : (s.limitDetached v).suspectIfReached = s.limitDetached v := if_neg h
  rw [writeDetachLimit_eq, hstay, if_neg fun hne => hne rfl]

/-- A limit that the detached count has reached makes an ONLINE target SUSPECT, and the heads are checked again (R60). -/
theorem writeDetachLimit_of_reached {s : State} {v : Word} (h : s.target.state = .online ∧ max 1 (min 64 v.toNat) ≤ s.detachedCount) :
    s.writeDetachLimit v = (s.limitDetached v).suspectIfReached.recheck := by
  have hleave : (s.limitDetached v).suspectIfReached = (s.limitDetached v).changeTarget .suspect := if_pos h
  have hchanged : (s.limitDetached v).suspectIfReached.target.state ≠ s.target.state := by
    rw [hleave, h.1]
    exact TargetState.noConfusion
  rw [writeDetachLimit_eq, if_pos hchanged]

/-- Everything that a limit the detached count has reached does to an ONLINE target. -/
theorem writeDetachLimit_suspects {s : State} {v : Word} (h : s.target.state = .online ∧ max 1 (min 64 v.toNat) ≤ s.detachedCount) :
    (s.writeDetachLimit v).target = { s.target with state := .suspect, detachLimit := max 1 (min 64 v.toNat) } ∧
      (s.writeDetachLimit v).flag .targetState = true ∧ s.Checks (s.writeDetachLimit v) true s.view ∧
      s.Frame (s.writeDetachLimit v) (.detachLimit :: Piece.ofNotices) := by
  have hleave : (s.limitDetached v).suspectIfReached = (s.limitDetached v).changeTarget .suspect := if_pos h
  have hflag : ∀ c, (s.limitDetached v).suspectIfReached.flag c = (s.flag c || decide (c = .targetState)) := fun c =>
    hleave ▸ flag_raise ..
  have honly := recheck_onlyHeads (s.limitDetached v).suspectIfReached
  have hframe := frame_trans (suspectIfReached_frame (s.limitDetached v)) honly.frame
  rw [writeDetachLimit_of_reached h]
  refine ⟨?_, ?_, checks_of_calm ?_ (by simp [hflag]) ?_, frame_trans (limitDetached_frame s v) hframe⟩
  · rw [honly.target, hleave]
    rfl
  · rw [honly.flag .targetState (by simp) (by simp), hflag, decide_eq_true rfl, Bool.or_true]
  · rw [hleave]
    rfl
  · rw [hleave]
    rfl

/-! ### O43 -/

/-- Settles O43: each register holds its bounded word and reads it back, and only the detach limit has anything follow. -/
theorem controlRegisterWrites : Obligations.ControlRegisterWrites := by
  intro v s hr
  have hv := v.isLt
  have hprescaler : max 1 (min 256 v.toNat) < 65536 := by omega
  have hlimit : max 1 (min 64 v.toNat) < 65536 := by omega
  have hwait : max 1 v.toNat < 65536 := by omega
  refine ⟨⟨_, next_of_high hr fun t => t.writePrescaler v, rfl, rfl, pack_value hprescaler, writePrescaler_frame s v⟩,
    ⟨_, next_of_high hr fun t => t.writePeriod v, rfl, ?_, ?_, writePeriod_frame s v⟩,
    ⟨_, next_of_high hr fun t => t.writeDetachLimit v, ?_⟩,
    ⟨_, next_of_high hr fun t => t.writeResyncWait v, rfl, pack_value hwait, writeResyncWait_frame s v⟩⟩
  · have hzero : v.toNat = 0 ↔ v = 0 := ⟨fun h => BitVec.eq_of_toNat_eq h, fun h => by rw [h]; rfl⟩
    exact if_congr hzero rfl rfl
  · exact BitVec.eq_of_toNat_eq (pack_value hv)
  · by_cases h : s.target.state = .online ∧ max 1 (min 64 v.toNat) ≤ s.detachedCount
    · obtain ⟨htarget, hflag, hchecks, hframe⟩ := writeDetachLimit_suspects h
      have hheld : (s.writeDetachLimit v).target.detachLimit = max 1 (min 64 v.toNat) := by rw [htarget]
      refine ⟨hheld, ?_, ?_⟩
      · exact (pack_value (hheld ▸ hlimit)).trans hheld
      · rw [if_pos h]
        exact ⟨by rw [htarget], hflag, hchecks, hframe⟩
    · rw [writeDetachLimit_of_not_reached h, if_neg h]
      exact ⟨rfl, pack_value hlimit, limitDetached_frame s v⟩

/-! ### Reads of a low word (R123, R166) -/

/-- The words of counter `c`'s registers. -/
theorem readWord_counter (s : State) (c : CounterIdx) {n k : Nat} (hn : n = 0x80 + 4 * c.val + k) (hk : k < 4) :
    s.readWord (BitVec.ofNat 8 n) = (s.counter c).word k := by
  have hc := c.isLt
  have ha : (BitVec.ofNat 8 n).toNat = n := by
    rw [BitVec.toNat_ofNat]
    omega
  have hcounter : Fin.ofNat 6 ((n - 0x80) / 4) = c := Fin.ext (by rw [Fin.val_ofNat]; omega)
  have hword : (n - 0x80) % 4 = k := by omega
  unfold State.readWord
  simp only [ha]
  iterate 18 rw [if_neg (by omega)]
  rw [if_pos (by omega), hcounter, hword]

theorem readTickLow_frame (s : State) : s.Frame s.readTickLow [.tickHolding, .busData] := by
  refine ⟨rfl, fun p hp => ?_⟩
  cases p with
  | tickHolding | busData => exact absurd (by simp) hp
  | histogramIndex => exact decide_eq_true ⟨rfl, rfl⟩
  | _ => exact decide_eq_true rfl

theorem counter_readCounterLow (s : State) (c d : CounterIdx) : (s.readCounterLow c).counter d =
    if c = d then { s.counter d with readHolding := highWord (s.counter d).value } else s.counter d := by
  rw [← counter_modCounter s c d fun k => { k with readHolding := highWord k.value }]
  rfl

theorem readCounterLow_frame (s : State) (c : CounterIdx) : s.Frame (s.readCounterLow c) [.readHolding c, .busData] := by
  have hcounter := counter_readCounterLow s c
  refine ⟨rfl, fun p hp => ?_⟩
  cases p with
  | busData => exact absurd (by simp) hp
  | readHolding d =>
    have hcd : c ≠ d := by rintro rfl; exact hp (by simp)
    exact decide_eq_true (by rw [hcounter, if_neg hcd])
  | counterValue d | counterControl d | overflow d | edgeMemory d | writeHolding d =>
    refine decide_eq_true ?_
    rw [hcounter]
    split <;> rfl
  | histogramIndex => exact decide_eq_true ⟨rfl, rfl⟩
  | _ => exact decide_eq_true rfl

/-- Settles O44: the word driven and the word latched are the two words of one value, and the tick count's own registers take no write. -/
theorem lowWordReadsLatch : Obligations.LowWordReadsLatch := by
  intro c s hr
  have hlow : s.readWord (BitVec.ofNat 8 (0x80 + 4 * c)) = lowWord (s.counter c).value := readWord_counter s c (k := 0) rfl (by decide)
  have hhigh : ∀ t : State, t.readWord (BitVec.ofNat 8 (0x81 + 4 * c)) = (t.counter c).readHolding := fun t =>
    readWord_counter t c (k := 1) (by omega) (by decide)
  refine ⟨⟨_, next_of_high hr State.readTickLow, rfl, words_join s.timebase.count, readTickLow_frame s⟩, rfl,
    fun v => ⟨next_of_high hr fun t => t.writeWord 0x0C v, next_of_high hr fun t => t.writeWord 0x0D v⟩,
    ⟨_, next_of_high hr fun t => t.readCounterLow c, ?_, ?_, readCounterLow_frame s c⟩, hhigh s⟩
  · rw [hlow]
    rfl
  · rw [hlow, hhigh, counter_readCounterLow, if_pos rfl]
    exact words_join (s.counter c).value

end Sys2Proof.Machine
end

section
/-!
The samples of a tick (R159, R161): one counter's sample, and the samples of all counters while no add can freeze the bank.
-/

namespace Sys2Proof.Machine

/-! ### One counter's sample -/

/-- A control counts an event only while it is enabled (R156). -/
theorem enable_of_counting {k : Control} {e : Event} {m : CountMode} (h : k.counting = some (e, m)) : k.enable = true := by
  unfold Control.counting at h
  split at h
  · split at h
    · rename_i hen
      exact (Bool.and_eq_true_iff.mp hen).1
    · cases h
  · cases h

/-- A counter that takes no sample: the bank is FROZEN, or the counter counts no sampled event. -/
def State.idles (s : State) (c : CounterIdx) : Prop :=
  s.monitor.bank = .frozen ∨ (s.counter c).control.counting = none ∨
    ∃ e m, (s.counter c).control.counting = some (e, m) ∧ e.sampled = false

theorem sample_of_idles {s : State} {c : CounterIdx} (h : s.idles c) : s.sample c = s := by
  unfold State.sample
  rcases h with hb | hc | ⟨e, m, hc, he⟩
  · simp [hb]
  · simp [hc]
  · simp [hc, he]

/-- The EDGE memory becomes the comparison of this tick, in EDGE mode (R161). -/
def State.remember (s : State) (c : CounterIdx) (m : CountMode) (v : Nat) : State :=
  if m = .edge then
    s.modCounter c fun k => { k with edgeMemory := if k.control.threshold.toNat ≤ v then .atOrAbove else .below }
  else s

/-- What counter `c` adds where it samples the event `e` in mode `m` (R161). -/
def State.sampleGain (s : State) (c : CounterIdx) (e : Event) (m : CountMode) : Nat :=
  sampleAdd m (s.sampleValue (s.counter c).control e) (s.counter c).control.threshold.toNat (s.counter c).edgeMemory

theorem sample_of_counting {s : State} {c : CounterIdx} {e : Event} {m : CountMode} (hb : s.monitor.bank = .running)
    (hc : (s.counter c).control.counting = some (e, m)) (he : e.sampled = true) :
    s.sample c = (s.remember c m (s.sampleValue (s.counter c).control e)).addTo c (s.sampleGain c e m) := by
  unfold State.sample
  simp only [hb, hc, he, beq_self_eq_true, if_true]
  rfl

/-- A counter takes its sample or idles. -/
theorem sample_cases (s : State) (c : CounterIdx) : s.idles c ∨ (s.monitor.bank = .running ∧
    ∃ e m, (s.counter c).control.counting = some (e, m) ∧ e.sampled = true) := by
  cases hb : s.monitor.bank with
  | frozen => exact .inl (.inl hb)
  | running =>
    cases hc : (s.counter c).control.counting with
    | none => exact .inl (.inr (.inl hc))
    | some p =>
      cases he : p.1.sampled with
      | false => exact .inl (.inr (.inr ⟨p.1, p.2, hc, he⟩))
      | true => exact .inr ⟨rfl, p.1, p.2, rfl, he⟩

theorem counter_remember (s : State) (c d : CounterIdx) (m : CountMode) (v : Nat) : (s.remember c m v).counter d =
    if m = .edge ∧ c = d then
      { s.counter d with edgeMemory := if (s.counter d).control.threshold.toNat ≤ v then .atOrAbove else .below }
    else s.counter d := by
  unfold State.remember
  by_cases hm : m = .edge
  · rw [if_pos hm, counter_modCounter]
    simp only [hm, true_and]
  · rw [if_neg hm, if_neg fun h => hm h.1]

theorem remember_tallies (s : State) (c : CounterIdx) (m : CountMode) (v : Nat) : Tallies s (s.remember c m v) fun _ => 0 where
  bank := by
    unfold State.remember
    split <;> rfl
  control d := by
    rw [counter_remember]
    split <;> rfl
  value d := by
    rw [counter_remember, BitVec.add_zero]
    split <;> rfl

theorem counter_addTo_of_ne (s : State) {c d : CounterIdx} (h : c ≠ d) (n : Nat) : (s.addTo c n).counter d = s.counter d := by
  unfold State.addTo
  simp only
  repeat' split
  all_goals simp [counter_modCounter, h]

theorem counter_sample_of_ne (s : State) {c d : CounterIdx} (h : c ≠ d) : (s.sample c).counter d = s.counter d := by
  rcases sample_cases s c with hidle | ⟨hb, e, m, hc, he⟩
  · rw [sample_of_idles hidle]
  · rw [sample_of_counting hb hc he, counter_addTo_of_ne _ h, counter_remember, if_neg fun hm => h hm.2]

/-- A sample that cannot freeze the bank: the counter gains what it adds. -/
theorem sample_tallies {s : State} {c : CounterIdx} {e : Event} {m : CountMode} (hm : s.monitor.mayFreeze = false)
    (hb : s.monitor.bank = .running) (hc : (s.counter c).control.counting = some (e, m)) (he : e.sampled = true) :
    Tallies s (s.sample c) fun d => if c = d then s.sampleGain c e m else 0 := by
  have hkeep := remember_tallies s c m (s.sampleValue (s.counter c).control e)
  have hcalm : (s.counter c).control.freezeOnOverflow = false := (mayFreeze_eq_false_iff s).mp hm hb c (enable_of_counting hc)
  rw [sample_of_counting hb hc he]
  refine (hkeep.trans (addTo_tallies _ c (s.sampleGain c e m) ?_)).congr fun d => Nat.zero_add _
  rw [hkeep.control, hcalm]

theorem edgeMemory_sample {s : State} {c : CounterIdx} {e : Event} {m : CountMode} (hb : s.monitor.bank = .running)
    (hc : (s.counter c).control.counting = some (e, m)) (he : e.sampled = true) : ((s.sample c).counter c).edgeMemory =
      if m = .edge then
        if (s.counter c).control.threshold.toNat ≤ s.sampleValue (s.counter c).control e then .atOrAbove else .below
      else (s.counter c).edgeMemory := by
  rw [sample_of_counting hb hc he, addTo_edgeMemory, counter_remember]
  by_cases hm : m = .edge
  · simp [hm]
  · simp [hm]

/-! ### What a sample reads -/

/-- The sampled values read the head statuses, the entries, the queues and the target port's credits and queues (R159). -/
theorem sampleValue_congr {s t : State} (htracker : t.tracker = s.tracker) (hports : t.ports = s.ports)
    (hheads : t.admission.heads = s.admission.heads) (hcredits : t.target.credits = s.target.credits)
    (hhigh : t.target.highQueue = s.target.highQueue) (hnormal : t.target.normalQueue = s.target.normalQueue) (k : Control) (e : Event) :
    t.sampleValue k e = s.sampleValue k e := by
  cases e with
  | headWait => simp only [State.sampleValue, State.head, hheads]
  | trackerUse => exact countEntries_of_tracker htracker _
  | ingressUse => simp only [State.sampleValue, port_of_ports hports]
  | creditEmpty => simp only [State.sampleValue, hcredits, hhigh, hnormal]
  | _ => rfl

theorem sampleValue_of_onlyMonitor {s t : State} (h : OnlyMonitor s t) (k : Control) (e : Event) : t.sampleValue k e = s.sampleValue k e :=
  sampleValue_congr h.tracker h.ports (by rw [h.admission]) (by rw [h.target]) (by rw [h.target]) (by rw [h.target]) k e

/-! ### The samples of all counters -/

/-- One item of a tick: a counter's sample, or the histogram bin, which takes nothing. -/
def sampleItem (t : State) (k : Option CounterIdx) : State :=
  match k with
  | some c => t.sample c
  | none => t

theorem sampleItem_onlyMonitor (t : State) (k : Option CounterIdx) : OnlyMonitor t (sampleItem t k) := by
  cases k with
  | none => exact .refl t
  | some c => exact sample_onlyMonitor t c

/-- What the samples before counter `c`'s turn leave for it. -/
structure AwaitsSample (s u : State) (c : CounterIdx) : Prop where
  only : OnlyMonitor s u
  bank : u.monitor.bank = s.monitor.bank
  mayFreeze : u.monitor.mayFreeze = false
  counter : u.counter c = s.counter c

theorem AwaitsSample.sampleItem {s u : State} {c : CounterIdx} (h : AwaitsSample s u c) {k : Option CounterIdx} (hk : k ≠ some c) :
    AwaitsSample s (sampleItem u k) c := by
  cases k with
  | none => exact h
  | some d =>
    have hdc : d ≠ c := fun hd => hk (congrArg some hd)
    rcases sample_cases u d with hidle | ⟨hb, e, m, hc, he⟩
    · rwa [Machine.sampleItem, sample_of_idles hidle]
    · have ht := sample_tallies h.mayFreeze hb hc he
      exact ⟨h.only.trans (sample_onlyMonitor u d), ht.bank.trans h.bank, ht.mayFreeze h.mayFreeze,
        (counter_sample_of_ne u hdc).trans h.counter⟩

theorem foldl_sampleItem_awaits {s : State} {c : CounterIdx} (l : List (Option CounterIdx)) (hl : some c ∉ l) :
    ∀ u, AwaitsSample s u c → AwaitsSample s (l.foldl sampleItem u) c := by
  induction l with
  | nil => exact fun _ h => h
  | cons k l ih =>
    obtain ⟨hk, hl⟩ := not_or.mp (mt List.mem_cons.mpr hl)
    exact fun u h => ih hl _ (h.sampleItem (Ne.symm hk))

theorem counter_foldl_sampleItem {c : CounterIdx} (l : List (Option CounterIdx)) (hl : some c ∉ l) :
    ∀ u : State, (l.foldl sampleItem u).counter c = u.counter c := by
  induction l with
  | nil => exact fun _ => rfl
  | cons k l ih =>
    obtain ⟨hk, hl⟩ := not_or.mp (mt List.mem_cons.mpr hl)
    intro u
    refine (ih hl _).trans ?_
    cases k with
    | none => rfl
    | some d => exact counter_sample_of_ne u fun hd => hk (congrArg some hd.symm)

/-- While no add can freeze the bank each counter ends as its own sample, taken of the state the tick found, leaves it (R161, R164). -/
theorem counter_sampleAll {s : State} (hm : s.monitor.mayFreeze = false) (c : CounterIdx) :
    ∃ u, AwaitsSample s u c ∧ s.sampleAll.counter c = (u.sample c).counter c := by
  obtain ⟨before, after, hsplit⟩ := List.append_of_mem (show some c ∈ monitorItems by simp [monitorItems])
  have hnodup : (before ++ some c :: after).Nodup := hsplit ▸ (by decide : monitorItems.Nodup)
  obtain ⟨-, hafter, hdisjoint⟩ := List.nodup_append.mp hnodup
  have hbefore : some c ∉ before := fun hc => hdisjoint _ hc _ List.mem_cons_self rfl
  refine ⟨before.foldl sampleItem s, foldl_sampleItem_awaits before hbefore s ⟨.refl s, rfl, hm, rfl⟩, ?_⟩
  have hall : s.sampleAll = monitorItems.foldl sampleItem s := inAnyOrder_of_calm s _ hm
  rw [hall, hsplit, List.foldl_append, List.foldl_cons]
  exact counter_foldl_sampleItem after (List.nodup_cons.mp hafter).1 _

theorem counter_sampleAll_of_counting {s : State} {c : CounterIdx} {e : Event} {m : CountMode} (hm : s.monitor.mayFreeze = false)
    (hb : s.monitor.bank = .running) (hc : (s.counter c).control.counting = some (e, m)) (he : e.sampled = true) :
    (s.sampleAll.counter c).value = (s.counter c).value + BitVec.ofNat 32 (s.sampleGain c e m) ∧
      (s.sampleAll.counter c).edgeMemory =
        if m = .edge then
          if (s.counter c).control.threshold.toNat ≤ s.sampleValue (s.counter c).control e then .atOrAbove else .below
        else (s.counter c).edgeMemory := by
  obtain ⟨u, ⟨honly, hbank, hcalm, hcounter⟩, hall⟩ := counter_sampleAll hm c
  have hvalue := sampleValue_of_onlyMonitor honly
  rw [← hbank] at hb
  rw [← hcounter] at hc
  have hgain : u.sampleGain c e m = s.sampleGain c e m := by simp only [State.sampleGain, hcounter, hvalue]
  rw [hall, (sample_tallies hcalm hb hc he).value, edgeMemory_sample hb hc he, if_pos rfl, hgain, hcounter, hvalue]
  exact ⟨rfl, rfl⟩

/-- A counter that idles as the tick is taken is left, whatever the order of the samples. -/
theorem counter_sampleAll_of_idles {s : State} {c : CounterIdx} (h : s.idles c) : s.sampleAll.counter c = s.counter c := by
  refine (inAnyOrder_induction s _
    (fun t => t.counter c = s.counter c ∧ (s.monitor.bank = .frozen → t.monitor.bank = .frozen)) (fun _ => ⟨rfl, id⟩)
    fun k t ⟨hcounter, hbank⟩ => ?_).1
  cases k with
  | none => exact ⟨hcounter, hbank⟩
  | some d =>
    refine ⟨?_, fun hf => ?_⟩
    · by_cases hdc : d = c
      · subst hdc
        have hidle : t.idles d := by
          rw [State.idles, hcounter]
          exact h.imp_left hbank
        exact (congrArg (fun u => u.counter d) (sample_of_idles hidle)).trans hcounter
      · exact (counter_sample_of_ne t hdc).trans hcounter
    · exact (congrArg (fun u => u.monitor.bank) (sample_of_idles (c := d) (.inl (hbank hf)))).trans (hbank hf)

theorem sampleAll_bins (s : State) : s.sampleAll.monitor.bins = s.monitor.bins := by
  refine inAnyOrder_induction s _ (fun t => t.monitor.bins = s.monitor.bins) (fun _ => rfl) fun k t ht => ?_
  cases k with
  | none => exact ht
  | some c =>
    refine Eq.trans ?_ ht
    rcases sample_cases t c with hidle | ⟨hb, e, m, hc, he⟩
    · exact congrArg (fun u => u.monitor.bins) (sample_of_idles hidle)
    · refine (congrArg (fun u => u.monitor.bins) (sample_of_counting hb hc he)).trans ((addTo_bins _ c _).trans ?_)
      unfold State.remember
      split <;> rfl

/-- What the samples of a tick may change (R159, R161, R162). -/
theorem sampleAll_frame (s : State) : s.Frame s.sampleAll Piece.ofSample := by
  have h := sampleAll_onlyMonitor s
  refine ⟨h.pending, fun p hp => ?_⟩
  simp only [Piece.ofSample, Piece.ofReport, List.mem_cons, List.mem_append, List.mem_map, not_or, not_exists, not_and] at hp
  obtain ⟨⟨⟨hvalue, hoverflow⟩, hbank, hovf, -⟩, hedge⟩ := hp
  cases p with
  | counterValue c => exact absurd rfl (hvalue c (List.mem_finRange c))
  | overflow c => exact absurd rfl (hoverflow c (List.mem_finRange c))
  | edgeMemory c => exact absurd rfl (hedge c (List.mem_finRange c))
  | bank => exact absurd rfl hbank
  | flag c => exact decide_eq_true (h.flag c fun hc => hovf (by rw [hc]))
  | bins i => exact decide_eq_true (by rw [sampleAll_bins])
  | counterControl c => exact decide_eq_true (h.control c)
  | readHolding c => exact decide_eq_true (h.readHolding c)
  | writeHolding c => exact decide_eq_true (h.writeHolding c)
  | edges => exact decide_eq_true h.edges
  | histogramIndex => exact decide_eq_true (by rw [h.management]; exact ⟨rfl, rfl⟩)
  | _ =>
    refine decide_eq_true ?_
    simp only [State.entry, State.port, State.head, State.profile, State.remaining, State.staged, State.sentTo, h.tracker, h.ports, h.admission,
      h.windows, h.regulation, h.target, h.timebase, h.faultLog, h.enables, h.management, h.links, h.rstN, h.sampleOwed]

end Sys2Proof.Machine
end

section
/-!
The tick itself (R121, R86, R112, R159), and O19.
-/

namespace Sys2Proof.Machine

/-! ### What is due, and what an earlier tick left -/

theorem expire_of_not_due {s : State} (h : s.expiryDue = false) : s.expire = s := by
  refine expire_of_none (List.filterMap_eq_nil_iff.mpr fun x _ => claimed_eq_none_iff.mpr fun e he => ?_)
  rw [State.expiring, decide_eq_false_iff_not]
  by_contra hnot
  obtain ⟨hexpiry, hlive⟩ := not_or.mp hnot
  exact Bool.false_ne_true (h.symm.trans ((expiryDue_iff s).mpr
    ⟨x, e, he, Bool.eq_true_of_not_eq_false hlive, not_not.mp hexpiry⟩))

theorem anyDue_eq_false_iff (s : State) :
    s.anyDue = false ↔ s.expiryDue = false ∧ s.regulation.expiryDue = false ∧ s.target.expiryDue = false := by
  simp only [State.anyDue, Bool.or_eq_false_iff, and_assoc]

/-- Nothing that an earlier tick started is left, so the next tick has nothing to take first (log entry 3). -/
theorem settleDue_of_settled {s : State} (ho : s.sampleOwed = false) (hd : s.anyDue = false) : s.settleDue = s := by
  obtain ⟨hexpiry, hperiod, hresync⟩ := (anyDue_eq_false_iff s).mp hd
  have hoffer := offerSample_of_not_owed s ho
  rw [State.settleDue, State.takeExpiry, expire_of_not_due hexpiry, hoffer, State.takePeriodExpiry, periodExpiry_of_not_due hperiod, hoffer,
    State.takeResyncWaitExpiry, resyncWaitExpiry_of_not_due hresync, hoffer]

/-! ### The tick before its sample -/

/-- The tick delivered to the count and the timers, its sample still owed. -/
def State.ticked (s : State) : State :=
  { s with
    timebase := { s.timebase with count := s.timebase.count + 1, progress := 0 }
    regulation := s.regulation.countTick
    target := s.target.countTick
    sampleOwed := true }

theorem countTick_eq (s : State) : s.countTick = s.ticked.offerSample := rfl

theorem exec_tick_of_settled {s : State} (hr : s.rstN = true) (ho : s.sampleOwed = false) (hd : s.anyDue = false) :
    exec .tick s = .next s.ticked.offerSample := by
  refine (next_of_high hr State.tick).trans ?_
  rw [State.tick, settleDue_of_settled ho hd, countTick_eq]

/-- What the tick may change before its sample, whatever then becomes of the sample and of the count of free orders. -/
theorem ticked_frame (s : State) (b : Bool) (n : Nat) : s.Frame { s.ticked with sampleOwed := b, choices := n }
    [.count, .progress, .periodTimer, .resyncTimer, .sampleOwed] := by
  refine ⟨rfl, fun p hp => ?_⟩
  cases p with
  | count | progress | periodTimer | resyncTimer | sampleOwed => exact absurd (by simp) hp
  | histogramIndex => exact decide_eq_true ⟨rfl, rfl⟩
  | _ => exact decide_eq_true rfl

/-- A tick makes a period expiry due exactly where it is the last of the period (R86). -/
theorem periodDue_countTick {g : Regulation} (h : ∀ n ∈ g.timer, n.expiryDue = false) :
    g.countTick.expiryDue = true ↔ ∃ n ∈ g.timer, g.period ≤ n.ticks + 1 := by
  obtain ⟨-, hnone, hsome⟩ := countTick_timer g
  rw [periodDue_iff]
  cases hg : g.timer with
  | none => simp [hnone hg]
  | some n =>
    rw [hsome n hg]
    by_cases hlast : g.period ≤ n.ticks + 1
    · simp [hlast]
    · simp [hlast, h n hg]

/-- A tick makes a resync wait expiry due exactly where it is the last of the wait (R112). -/
theorem resyncDue_countTick {t : TargetPort} (h : t.expiryDue = false) :
    t.countTick.expiryDue = true ↔ t.state = .resyncing ∧ ∃ n ∈ t.resyncTimer, n.ticks ≤ 1 := by
  obtain ⟨-, hnone, hsome⟩ := countTick_resyncTimer t
  rw [resyncDue_iff]
  refine and_congr_right fun hstate => ?_
  cases ht : t.resyncTimer with
  | none => simp [hnone ht]
  | some n =>
    have hn : n.expiryDue = false := Bool.eq_false_iff.mpr fun hdue =>
      Bool.false_ne_true (h.symm.trans ((resyncDue_iff t).mpr ⟨hstate, n, ht, hdue⟩))
    rw [hsome n ht]
    by_cases hlast : n.ticks ≤ 1
    · simp [hlast]
    · simp [hlast, hn]

/-- The expiries that the tick starts (R86, R112, R127). -/
theorem anyDue_ticked {s : State} (hperiod : ∀ n ∈ s.regulation.timer, n.expiryDue = false) (hresync : s.target.expiryDue = false) :
    s.ticked.anyDue = true ↔
      (∃ x : EntryIdx, ∃ e ∈ s.entry x, e.phase.live = true ∧ e.expiryTick = some (s.timebase.count + 1)) ∨
      (∃ n ∈ s.regulation.timer, s.regulation.period ≤ n.ticks + 1) ∨
      (s.target.state = .resyncing ∧ ∃ n ∈ s.target.resyncTimer, n.ticks ≤ 1) := by
  rw [State.anyDue, Bool.or_eq_true, Bool.or_eq_true, or_assoc]
  exact or_congr (expiryDue_iff s.ticked) (or_congr (periodDue_countTick hperiod) (resyncDue_countTick hresync))

/-! ### The tick and its sample -/

/-- The tick delivered and its sample taken. -/
structure TakesTick (s t : State) : Prop where
  owed : t.sampleOwed = false
  gains : s.monitor.mayFreeze = false → s.monitor.bank = .running → ∀ c e m, (s.counter c).control.counting = some (e, m) →
    e.sampled = true → (t.counter c).value = (s.counter c).value + BitVec.ofNat 32 (s.sampleGain c e m) ∧
      (t.counter c).edgeMemory =
        if m = .edge then
          if (s.counter c).control.threshold.toNat ≤ s.sampleValue (s.counter c).control e then .atOrAbove else .below
        else (s.counter c).edgeMemory
  idle : ∀ c, s.idles c → t.counter c = s.counter c
  frame : s.Frame t ([.count, .progress, .periodTimer, .resyncTimer] ++ Piece.ofSample)

/-- The tick's sample is of the state as it stands, whatever the count of free orders. -/
theorem takeSample_takesTick {s : State} (ho : s.sampleOwed = false) (n : Nat) :
    TakesTick s (State.takeSample { s.ticked with choices := n }) := by
  have hframe : s.Frame { s.ticked with sampleOwed := false, choices := n } [.count, .progress, .periodTimer, .resyncTimer] :=
    frame_strike (m := [.sampleOwed]) (ticked_frame s false n) fun p hp => by
      rw [List.mem_singleton.mp hp]
      exact decide_eq_true ho.symm
  have hvalue : ∀ k e, State.sampleValue { s.ticked with sampleOwed := false, choices := n } k e = s.sampleValue k e :=
    sampleValue_congr rfl rfl rfl rfl rfl rfl
  have hgain : ∀ c e m, State.sampleGain { s.ticked with sampleOwed := false, choices := n } c e m = s.sampleGain c e m := fun c e m =>
    congrArg (fun v => sampleAdd m v (s.counter c).control.threshold.toNat (s.counter c).edgeMemory) (hvalue ..)
  refine ⟨takeSample_sampleOwed _, fun hm hb c e m hc he => ?_, fun c hidle => ?_, frame_trans hframe (sampleAll_frame _)⟩
  · have h := counter_sampleAll_of_counting (s := { s.ticked with sampleOwed := false, choices := n }) hm hb hc he
    rw [hgain, hvalue] at h
    exact h
  · exact counter_sampleAll_of_idles (s := { s.ticked with sampleOwed := false, choices := n }) hidle

/-! ### O19 -/

theorem timer_ticked (s : State) : s.ticked.regulation.timer = s.regulation.timer.map fun n =>
    if n.ticks + 1 < s.regulation.period then { n with ticks := n.ticks + 1 } else { n with expiryDue := true } := by
  simp only [← Nat.not_le, ite_not]
  rfl

theorem resyncTimer_ticked (s : State) : s.ticked.target.resyncTimer = s.target.resyncTimer.map fun n =>
    if 1 < n.ticks then { n with ticks := n.ticks - 1 } else { n with expiryDue := true } := by
  simp only [← Nat.not_le, ite_not]
  rfl

/-- Settles O19: the tick is delivered, and its sample is taken at once unless an expiry that the tick starts lets it wait. -/
theorem tickCountsAndSamples : Obligations.TickCountsAndSamples := by
  intro s hr ho hexpiry hperiod hresync
  have hexpired : s.expiryDue = false := Bool.eq_false_iff.mpr fun h => by
    obtain ⟨x, e, he, hlive, hcount⟩ := (expiryDue_iff s).mp h
    exact hexpiry x e he hlive hcount
  have hregulation : s.regulation.expiryDue = false := Bool.eq_false_iff.mpr fun h => by
    obtain ⟨n, hn, hdue⟩ := (periodDue_iff s.regulation).mp h
    exact Bool.false_ne_true ((hperiod n hn).symm.trans hdue)
  have htarget : s.target.expiryDue = false := Bool.eq_false_iff.mpr fun h => hresync ((resyncDue_iff s.target).mp h)
  obtain ⟨b, honly⟩ := offerSample_onlyMonitor s.ticked
  refine ⟨_, exec_tick_of_settled hr ho ((anyDue_eq_false_iff s).mpr ⟨hexpired, hregulation, htarget⟩), by rw [honly.timebase]; rfl,
    by rw [honly.timebase]; rfl, by rw [honly.regulation]; exact timer_ticked s, by rw [honly.target]; exact resyncTimer_ticked s, ?_⟩
  intro sampled started
  have hstarted : s.ticked.anyDue = true ↔ started := anyDue_ticked hperiod htarget
  have hsampled : TakesTick s s.ticked.offerSample → sampled := fun ⟨howed, hgains, hidle, hframe⟩ => by
    refine ⟨howed, fun hm hb c e m hc he => ?_, hidle, hframe⟩
    obtain ⟨hvalue, hmemory⟩ := hgains hm hb c e m hc he
    refine ⟨hvalue.trans ?_, hmemory.trans ?_⟩
    · cases m <;> simp [State.sampleGain, sampleAdd]
    · simp
  rcases offerSample_cases s.ticked with ⟨howed, -⟩ | ⟨-, hdue, hnow⟩ | ⟨-, hdue, hnow | hwait⟩
  · cases howed
  · exact ⟨fun _ => hsampled (hnow ▸ takeSample_takesTick ho s.choices),
      fun h => absurd (hstarted.mpr h) (Bool.eq_false_iff.mp hdue)⟩
  · exact ⟨fun h => absurd (hstarted.mp hdue) h, fun _ => .inl (hsampled (hnow ▸ takeSample_takesTick ho _))⟩
  · exact ⟨fun h => absurd (hstarted.mp hdue) h, fun _ => .inr (hwait ▸ ⟨rfl, ticked_frame s true _⟩)⟩

end Sys2Proof.Machine
end

section
/-!
The claims, the checks of heads and the reports do not read whether the monitor owes its sample (log entry 3): each does the same with the
sample owed as without.
-/

namespace Sys2Proof.Machine

/-- The state in which the monitor owes its sample, or does not. -/
def State.owing (s : State) (b : Bool) : State := { s with sampleOwed := b }

section
variable (s : State) (b : Bool)

theorem foldl_owing {α : Type} {f : State → α → State} (h : ∀ t a, f (t.owing b) a = (f t a).owing b) (l : List α) :
    l.foldl f (s.owing b) = (l.foldl f s).owing b := by
  induction l generalizing s with
  | nil => rfl
  | cons a l ih => rw [List.foldl_cons, h, ih, List.foldl_cons]

/-! ### Records and the monitor's adds (R157, R162, R177) -/

theorem logFault_owing (r : FaultReport) : (s.owing b).logFault r = (s.logFault r).owing b := by
  unfold State.logFault
  rw [show (s.owing b).faultLog = s.faultLog from rfl]
  split <;> rfl

theorem addTo_owing (c : CounterIdx) (n : Nat) : (s.owing b).addTo c n = (s.addTo c n).owing b := by
  unfold State.addTo
  rw [show (s.owing b).counter c = s.counter c from rfl]
  simp only
  split
  · rfl
  · split <;> split <;> rfl

theorem offer_owing (c : CounterIdx) (r : Report) : (s.owing b).offer c r = (s.offer c r).owing b := by
  unfold State.offer
  rw [show (s.owing b).counter c = s.counter c from rfl, show (s.owing b).monitor = s.monitor from rfl]
  split
  · exact addTo_owing s b c r.amount
  · rfl

theorem report_owing (rs : List Report) : (s.owing b).report rs = (s.report rs).owing b := by
  have hreports : ∀ (t : State) (c : CounterIdx),
      rs.foldl (fun t r => t.offer c r) (t.owing b) = (rs.foldl (fun t r => t.offer c r) t).owing b := fun t c =>
    foldl_owing t b (fun t r => offer_owing t b c r) rs
  unfold State.report State.inAnyOrder
  rw [show (s.owing b).monitor = s.monitor from rfl]
  split
  · refine foldl_owing { s with choices := s.choices + 1 } b (fun t k => ?_) _
    cases k with
    | none => rfl
    | some c => exact hreports t c
  · refine foldl_owing s b (fun t k => ?_) _
    cases k with
    | none => rfl
    | some c => exact hreports t c

/-! ### The check of heads (R53, R60) -/

theorem refuseHead_owing (i : Initiator) (r : Request) (rest : List Request) (why : HeadRefusal) :
    (s.owing b).refuseHead i r rest why = (s.refuseHead i r rest why).owing b :=
  report_owing (((s.modPort i fun p => { p with queue := rest }).send i (.response r.tag why.status [])).returnCredit i) b _

theorem checkQueue_owing (i : Initiator) (q : List Request) (prev : HeadStatus) :
    State.checkQueue i prev q (s.owing b) = (State.checkQueue i prev q s).owing b := by
  induction q generalizing s prev with
  | nil => rfl
  | cons r rest ih =>
    unfold State.checkQueue
    rw [verdict_congr (s := s) (t := s.owing b) rfl rfl rfl rfl rfl]
    cases s.verdict i r with
    | refuse why =>
      simp only
      rw [refuseHead_owing, ih]
    | wait reason =>
      simp only
      split <;> rfl
    | pass => rfl

theorem recheckOne_owing (i : Initiator) : (s.owing b).recheckOne i = (s.recheckOne i).owing b := by
  unfold State.recheckOne
  rw [show (s.owing b).head i = s.head i from rfl, show (s.owing b).port i = s.port i from rfl]
  split
  · rfl
  · exact checkQueue_owing s b i _ _

theorem recheck_owing : (s.owing b).recheck = s.recheck.owing b :=
  foldl_owing s b (fun t i => recheckOne_owing t b i) initiators

/-! ### Claims and their notices (R5, R17) -/

theorem enqueue_owing (x : EntryIdx) : (s.owing b).enqueue x = (s.enqueue x).owing b := by
  unfold State.enqueue
  rw [show (s.owing b).entry x = s.entry x from rfl]
  split
  · split <;> rfl
  · rfl

theorem freeEntry_owing (x : EntryIdx) : (s.owing b).freeEntry x = (s.freeEntry x).owing b := by
  unfold State.freeEntry
  rw [show (s.owing b).entry x = s.entry x from rfl]
  cases s.entry x with
  | none => rfl
  | some e => exact foldl_owing ((s.unqueue x).mapEntries (unlink x e)) b (fun t y => enqueue_owing t b y) _

theorem answerWith_owing (a : Option Status) (e : Entry) : (s.owing b).answerWith a e = (s.answerWith a e).owing b := by
  cases a with
  | none => rfl
  | some st =>
    simp only [State.answerWith, State.answer]
    split <;> rfl

section
variable (sel : EntryIdx → Entry → Bool) (a : Option Status) (c : DetachCause)

/-- One entry's turn in a claim settles the same, and adds the same to the list of what is settled. -/
theorem settleEntry_owing (l : List Settled) (x : EntryIdx) : settleEntry sel a c (s.owing b, l) x =
    ((settleEntry sel a c (s, l) x).1.owing b, (settleEntry sel a c (s, l) x).2) := by
  by_cases hpass : ∀ e, s.entry x = some e → sel x e = false ∨ e.phase.isDetached = true
  · rw [settleEntry_of_pass sel a c (s.owing b) l x hpass, settleEntry_of_pass sel a c s l x hpass]
  · push Not at hpass
    obtain ⟨e, hx, hs, hd⟩ := hpass
    have hs : sel x e = true := Bool.eq_true_of_not_eq_false hs
    rcases e.phase.cases_live with ⟨hp, -⟩ | ⟨hp, -⟩ | ⟨hp, -⟩
    · exact absurd hp hd
    · rw [settleEntry_of_issued sel a c (s.owing b) l x hx hs hp, settleEntry_of_issued sel a c s l x hx hs hp, answerWith_owing]
      rfl
    · rw [settleEntry_of_unissued sel a c (s.owing b) l x hx hs hp, settleEntry_of_unissued sel a c s l x hx hs hp, answerWith_owing,
        freeEntry_owing]

theorem claim_owing : (s.owing b).claim sel a c = ((s.claim sel a c).1.owing b, (s.claim sel a c).2) := by
  have fold : ∀ (l : List EntryIdx) (u : State) (done : List Settled), l.foldl (settleEntry sel a c) (u.owing b, done) =
      ((l.foldl (settleEntry sel a c) (u, done)).1.owing b, (l.foldl (settleEntry sel a c) (u, done)).2) := by
    intro l
    induction l with
    | nil => exact fun _ _ => rfl
    | cons x l ih =>
      intro u done
      rw [List.foldl_cons, settleEntry_owing, ih, List.foldl_cons]
  exact fold entryIndices s []

end

theorem suspectIfReached_owing : (s.owing b).suspectIfReached = s.suspectIfReached.owing b := by
  unfold State.suspectIfReached
  rw [detachedCount_of_tracker (s := s) (t := s.owing b) rfl, show (s.owing b).target = s.target from rfl]
  split <;> rfl

theorem notices_owing (before : State) : State.notices (before.owing b) (s.owing b) = (State.notices before s).owing b := by
  have hcount : ∀ t : State, (t.owing b).detachedCount = t.detachedCount := fun _ => detachedCount_of_tracker rfl
  have hfree : ∀ t : State, (t.owing b).freeCount = t.freeCount := fun _ => freeCount_of_tracker rfl
  have hstate : ∀ t : State, (t.owing b).target.state = t.target.state := fun _ => rfl
  have hsuspect : (if s.detachedCount ≠ before.detachedCount then (s.owing b).suspectIfReached else s.owing b) =
      (if s.detachedCount ≠ before.detachedCount then s.suspectIfReached else s).owing b := by
    split
    · exact suspectIfReached_owing s b
    · rfl
  unfold State.notices
  simp only [hcount, hsuspect, hfree, hstate]
  generalize (if s.detachedCount ≠ before.detachedCount then s.suspectIfReached else s) = t
  split
  · exact recheck_owing t b
  · rfl

/-! ### The three expiries (R86, R112, R127) -/

theorem reportTimeout_owing (x : Settled) : (s.owing b).reportTimeout x = (s.reportTimeout x).owing b := by
  rw [State.reportTimeout, logFault_owing, report_owing, State.reportTimeout]

theorem expire_owing : (s.owing b).expire = s.expire.owing b := by
  have hclaim : (s.owing b).expiryClaim = (s.expiryClaim.1.owing b, s.expiryClaim.2) := by
    rw [expiryClaim_eq, expiryClaim_eq]
    exact claim_owing s b (fun _ e => s.expiring e) _ _
  rw [State.expire, hclaim, notices_owing, foldl_owing _ b fun t x => reportTimeout_owing t b x, State.expire]

theorem periodExpiry_owing : (s.owing b).periodExpiry = s.periodExpiry.owing b := by
  cases hdue : s.regulation.expiryDue with
  | false => rw [periodExpiry_of_not_due hdue, periodExpiry_of_not_due (s := s.owing b) hdue]
  | true =>
    rw [periodExpiry_of_due hdue, periodExpiry_of_due (s := s.owing b) hdue, show (s.owing b).anyMetered = s.anyMetered from rfl]
    split
    · exact recheck_owing s.beginPeriod b
    · rfl

theorem enterOffline_owing : (s.owing b).enterOffline = s.enterOffline.owing b := by
  rw [enterOffline_movesTo, enterOffline_movesTo, offlineClaim_eq, claim_owing, ← offlineClaim_eq]
  generalize s.offlineClaim = u
  exact recheck_owing (u.movedTo .offline none []) b

theorem resyncWaitExpiry_owing : (s.owing b).resyncWaitExpiry = s.resyncWaitExpiry.owing b := by
  cases hdue : s.target.expiryDue with
  | false => rw [resyncWaitExpiry_of_not_due hdue, resyncWaitExpiry_of_not_due (s := s.owing b) hdue]
  | true =>
    rw [resyncWaitExpiry_of_due hdue, resyncWaitExpiry_of_due (s := s.owing b) hdue, logFault_owing, enterOffline_owing]

end

end Sys2Proof.Machine
end

section
/-!
What an earlier tick left is taken before the next (log entry 3), and O20.
-/

namespace Sys2Proof.Machine

/-! ### Pieces that a frame keeps -/

section
variable {s t : State} {l : List Piece} (h : s.Frame t l)
include h

theorem count_of_frame (hl : Piece.count ∉ l) : t.timebase.count = s.timebase.count := of_decide_eq_true (h.2 .count hl)

theorem periodTimer_of_frame (hl : Piece.periodTimer ∉ l) : t.regulation.timer = s.regulation.timer :=
  of_decide_eq_true (h.2 .periodTimer hl)

theorem rstN_of_frame (hl : Piece.rstN ∉ l) : t.rstN = s.rstN := of_decide_eq_true (h.2 .rstN hl)

end

/-! ### An expiry taken is due no more -/

/-- A claim leaves no live entry that it selects (R17). -/
theorem unselected_of_settledBy {s t : State} {sel : Entry → Bool} {c : DetachCause} {x : EntryIdx} {e : Entry} (hsel : SteadySelection sel)
    (h : s.settledBy t sel c x = true) (he : t.entry x = some e) : sel e = false ∨ e.phase.live = false := by
  unfold State.settledBy at h
  cases hs : s.entry x with
  | none => simp [hs, he] at h
  | some f =>
    rw [hs] at h
    simp only at h
    split at h
    · split at h
      · obtain ⟨-, e', -, he', hp, -⟩ := (entryDetached_iff ..).mp h
        cases he.symm.trans he'
        exact .inr (by rw [hp]; rfl)
      · simp [he] at h
    · rename_i hnot
      have hk : f.KeptAs e := by simpa [entryKept_iff, hs, he] using h
      rw [hsel f e hk, hk.live]
      exact Bool.and_eq_false_iff.mp (Bool.eq_false_iff.mpr hnot)

/-- The expiry claim leaves no live entry whose expiry tick is the count (R127). -/
theorem expiryDue_expire (s : State) : s.expire.expiryDue = false := by
  have htracker : s.expire.tracker = s.expiryClaim.1.tracker :=
    (foldl_reportTimeout s.expiryClaim.2 (State.notices s s.expiryClaim.1)).tracker.trans (notices_tracker s s.expiryClaim.1)
  have hcount : s.expire.timebase.count = s.timebase.count := count_of_frame (expire_frame s)
    (by simp [Piece.ofClaim, Piece.ofNotices, Piece.ofRecheck, Piece.ofReport, Piece.ofFault])
  refine Bool.eq_false_iff.mpr fun hdue => ?_
  obtain ⟨x, e, he, hlive, hexpiry⟩ := (expiryDue_iff s.expire).mp hdue
  have hsettled : s.settledBy s.expiryClaim.1 s.expiring .timeout x = true := by
    rw [expiryClaim_eq]
    exact claim_settledBy (expiring_steady s) (some .errTimeout) .timeout s x
  rw [Option.mem_def, entry_of_tracker htracker] at he
  rcases unselected_of_settledBy (expiring_steady s) hsettled he with hnot | hdead
  · exact absurd (hexpiry.trans (congrArg some hcount)) (of_decide_eq_false hnot)
  · exact Bool.false_ne_true (hdead.symm.trans hlive)

theorem expiryDue_congr {s t : State} (htracker : t.tracker = s.tracker) (hcount : t.timebase.count = s.timebase.count) :
    t.expiryDue = s.expiryDue := by
  simp only [State.expiryDue, State.entry, htracker, hcount]

/-- The period expiry begins the period again, and leaves the entries and the count (R86). -/
theorem due_periodExpiry (s : State) : s.periodExpiry.regulation.expiryDue = false ∧ s.periodExpiry.expiryDue = s.expiryDue := by
  cases hdue : s.regulation.expiryDue with
  | false =>
    rw [periodExpiry_of_not_due hdue]
    exact ⟨hdue, rfl⟩
  | true =>
    have honly := recheck_onlyHeads s.beginPeriod
    rw [periodExpiry_of_due hdue]
    split
    · exact ⟨by rw [honly.regulation]; rfl, expiryDue_congr honly.tracker (by rw [honly.timebase]; rfl)⟩
    · exact ⟨rfl, rfl⟩

/-- OFFLINE holds no live entry, so nothing there expires (R21). -/
theorem expiryDue_enterOffline (s : State) : s.enterOffline.expiryDue = false := by
  refine Bool.eq_false_iff.mpr fun hdue => ?_
  obtain ⟨x, e, he, hlive, -⟩ := (expiryDue_iff _).mp hdue
  rw [Option.mem_def, entry_of_tracker (enterOffline_leavesTarget s).tracker] at he
  have hdetached := isDetached_of_offlineClaim s x e he
  cases hp : e.phase <;> simp_all [Phase.live, Phase.isDetached]

/-- The resync wait expiry is due no more, and makes no other expiry due (R112). -/
theorem due_resyncWaitExpiry (s : State) : s.resyncWaitExpiry.target.expiryDue = false ∧
    s.resyncWaitExpiry.regulation.expiryDue = s.regulation.expiryDue ∧ (s.expiryDue = false → s.resyncWaitExpiry.expiryDue = false) := by
  have htimer := periodTimer_of_frame (resyncWaitExpiry_frame s) (by simp [Piece.ofClaim, Piece.ofRecheck, Piece.ofReport, Piece.ofFault])
  refine ⟨?_, by rw [Regulation.expiryDue, htimer, Regulation.expiryDue], fun hexpiry => ?_⟩
  · cases hdue : s.target.expiryDue with
    | false => rwa [resyncWaitExpiry_of_not_due hdue]
    | true =>
      rw [resyncWaitExpiry_of_due hdue, (enterOffline_leavesTarget _).target]
      rfl
  · cases hdue : s.target.expiryDue with
    | false => rwa [resyncWaitExpiry_of_not_due hdue]
    | true =>
      rw [resyncWaitExpiry_of_due hdue]
      exact expiryDue_enterOffline _

/-! ### The moment of the sample makes nothing due -/

theorem due_offerSample (s : State) : s.offerSample.expiryDue = s.expiryDue ∧
    s.offerSample.regulation.expiryDue = s.regulation.expiryDue ∧ s.offerSample.target.expiryDue = s.target.expiryDue := by
  obtain ⟨b, h⟩ := offerSample_onlyMonitor s
  exact ⟨expiryDue_congr h.tracker (by rw [h.timebase]), by rw [h.regulation], by rw [h.target]⟩

theorem anyDue_offerSample (s : State) : s.offerSample.anyDue = s.anyDue := by
  obtain ⟨hexpiry, hperiod, hresync⟩ := due_offerSample s
  rw [State.anyDue, hexpiry, hperiod, hresync, State.anyDue]

theorem rstN_offerSample (s : State) : s.offerSample.rstN = s.rstN := by
  obtain ⟨b, h⟩ := offerSample_onlyMonitor s
  exact h.rstN

theorem sampleOwed_offerSample_of_not_due {s : State} (h : s.anyDue = false) : s.offerSample.sampleOwed = false := by
  rcases offerSample_cases s with ⟨ho, e⟩ | ⟨-, -, e⟩ | ⟨-, hd, -⟩
  · rwa [e]
  · rw [e]
    exact takeSample_sampleOwed s
  · exact absurd hd (Bool.eq_false_iff.mp h)

/-! ### What is due is taken (log entry 3) -/

theorem rstN_takeExpiry (s : State) : s.takeExpiry.rstN = s.rstN :=
  (rstN_offerSample _).trans (rstN_of_frame (expire_frame s)
    (by simp [Piece.ofClaim, Piece.ofNotices, Piece.ofRecheck, Piece.ofReport, Piece.ofFault]))

theorem rstN_takePeriodExpiry (s : State) : s.takePeriodExpiry.rstN = s.rstN := by
  refine (rstN_offerSample _).trans ?_
  cases hdue : s.regulation.expiryDue with
  | false => rw [periodExpiry_of_not_due hdue]
  | true =>
    obtain ⟨-, -, -, hframe⟩ := periodExpiry_refills hdue
    exact rstN_of_frame hframe (by simp [Piece.ofRecheck, Piece.ofReport])

theorem rstN_takeResyncWaitExpiry (s : State) : s.takeResyncWaitExpiry.rstN = s.rstN :=
  (rstN_offerSample _).trans (rstN_of_frame (resyncWaitExpiry_frame s)
    (by simp [Piece.ofClaim, Piece.ofRecheck, Piece.ofReport, Piece.ofFault]))

/-- With the three expiries taken nothing is due, and so no sample is owed. -/
theorem settled_settleDue (s : State) : s.settleDue.anyDue = false ∧ s.settleDue.sampleOwed = false := by
  have hfirst : s.takeExpiry.expiryDue = false := (due_offerSample s.expire).1.trans (expiryDue_expire s)
  unfold State.settleDue
  generalize s.takeExpiry = a at *
  have hsecond : a.takePeriodExpiry.expiryDue = false ∧ a.takePeriodExpiry.regulation.expiryDue = false := by
    obtain ⟨hexpiry, hperiod, -⟩ := due_offerSample a.periodExpiry
    obtain ⟨hbegun, hkept⟩ := due_periodExpiry a
    exact ⟨hexpiry.trans (hkept.trans hfirst), hperiod.trans hbegun⟩
  generalize a.takePeriodExpiry = b at *
  obtain ⟨hexpiry, hperiod⟩ := hsecond
  obtain ⟨hresync, hkept, hnone⟩ := due_resyncWaitExpiry b
  have hdue : b.resyncWaitExpiry.anyDue = false :=
    (anyDue_eq_false_iff _).mpr ⟨hnone hexpiry, hkept.trans hperiod, hresync⟩
  exact ⟨(anyDue_offerSample _).trans hdue, sampleOwed_offerSample_of_not_due hdue⟩

/-! ### An owed sample behind an expiry (R159) -/

/-- An expiry leaves `u` where no sample is owed, and `t` where one is: the sample is of `u`, taken now, or, while an expiry of the tick is
left, now or later. -/
structure SampledBehind (u t : State) : Prop where
  now : u.anyDue = false → t = u.sampleAll
  nowOrLater : u.anyDue = true → ∃ n : Nat, t = State.sampleAll { u with choices := n } ∨ t = { u with sampleOwed := true, choices := n }

theorem offerSample_owing {u : State} (ho : u.sampleOwed = false) : SampledBehind u (u.owing true).offerSample := by
  have hdue : (u.owing true).anyDue = u.anyDue := rfl
  have htake : ∀ n, State.takeSample { u.owing true with choices := n } = State.sampleAll { u with choices := n } := fun n => by
    rw [State.takeSample, State.owing, ← ho]
  rcases offerSample_cases (u.owing true) with ⟨howed, -⟩ | ⟨-, hnot, e⟩ | ⟨-, hyes, e⟩
  · cases howed
  · exact ⟨fun _ => e.trans (htake u.choices), fun h => absurd h (Bool.eq_false_iff.mp (hdue ▸ hnot))⟩
  · exact ⟨fun h => absurd (hdue ▸ hyes) (Bool.eq_false_iff.mp h), fun _ => ⟨_, e.imp (·.trans (htake _)) id⟩⟩

/-- A command that is an expiry `f`, blind to the owed sample, and then the moment of the sample. -/
theorem owed_sample_follows {c : Instr} {f : State → State} {s : State} (hr : s.rstN = true) (ho : s.sampleOwed = true)
    (hexec : ∀ t : State, exec c t = .next (t.outOfReset fun t => (f t).offerSample)) (hf : ∀ b, f (s.owing b) = (f s).owing b) :
    ∃ u t, exec c { s with sampleOwed := false } = .next u ∧ exec c s = .next t ∧ SampledBehind u t := by
  have hnone : (f (s.owing false)).sampleOwed = false := by rw [hf]; rfl
  have hs : s.owing true = s := by rw [State.owing, ← ho]
  have howed : f s = (f (s.owing false)).owing true :=
    calc f s
      _ = (f s).owing true := by rw [← hf, hs]
      _ = ((f s).owing false).owing true := rfl
      _ = (f (s.owing false)).owing true := by rw [hf]
  have hbefore : exec c (s.owing false) = .next (f (s.owing false)) := by
    rw [hexec, State.outOfReset_high _ _ (show (s.owing false).rstN = true from hr), offerSample_of_not_owed _ hnone]
  have hafter : exec c s = .next ((f (s.owing false)).owing true).offerSample := by
    rw [hexec, State.outOfReset_high _ _ hr, howed]
  exact ⟨_, _, hbefore, hafter, offerSample_owing hnone⟩

/-- Something of the tick is left, in the words of the rules (R86, R112, R127). -/
theorem anyDue_iff (u : State) : u.anyDue = true ↔
    (∃ x : EntryIdx, ∃ e ∈ u.entry x, e.phase.live = true ∧ e.expiryTick = some u.timebase.count) ∨
    (∃ n ∈ u.regulation.timer, n.expiryDue = true) ∨ (u.target.state = .resyncing ∧ ∃ n ∈ u.target.resyncTimer, n.expiryDue = true) := by
  rw [State.anyDue, Bool.or_eq_true, Bool.or_eq_true, or_assoc, expiryDue_iff, periodDue_iff, resyncDue_iff]

/-! ### O20 -/

/-- Settles O20: the three expiries leave nothing due and nothing owed, and each does the same with the sample owed as without. -/
theorem tickSettlesWhatIsDue : Obligations.TickSettlesWhatIsDue := by
  intro s hr
  have hra : s.takeExpiry.rstN = true := (rstN_takeExpiry s).trans hr
  have hrb : s.takeExpiry.takePeriodExpiry.rstN = true := (rstN_takePeriodExpiry _).trans hra
  have hrd : s.settleDue.rstN = true := (rstN_takeResyncWaitExpiry _).trans hrb
  obtain ⟨hdue, howed⟩ := settled_settleDue s
  refine ⟨⟨_, _, s.settleDue, next_of_high hr State.takeExpiry, next_of_high hra State.takePeriodExpiry,
    next_of_high hrb State.takeResyncWaitExpiry, howed, ?_⟩, fun ho => ?_⟩
  · calc exec .tick s
      _ = .next s.tick := next_of_high hr State.tick
      _ = .next s.settleDue.tick := by rw [State.tick, State.tick, settleDue_of_settled howed hdue]
      _ = exec .tick s.settleDue := (next_of_high hrd State.tick).symm
  · intro c hc
    have hfollows : ∃ u t, exec c { s with sampleOwed := false } = .next u ∧ exec c s = .next t ∧ SampledBehind u t := by
      simp only [List.mem_cons, List.not_mem_nil, or_false] at hc
      rcases hc with rfl | rfl | rfl
      · exact owed_sample_follows hr ho (fun _ => rfl) (expire_owing s)
      · exact owed_sample_follows hr ho (fun _ => rfl) (periodExpiry_owing s)
      · exact owed_sample_follows hr ho (fun _ => rfl) (resyncWaitExpiry_owing s)
    obtain ⟨u, t, hbefore, hafter, hnow, hlater⟩ := hfollows
    exact ⟨u, t, hbefore, hafter, fun h => hnow (Bool.eq_false_iff.mpr (mt (anyDue_iff u).mp h)), fun h => hlater ((anyDue_iff u).mpr h)⟩

end Sys2Proof.Machine
end

section
/-!
Opening and draining a port (R138, R140, R142), and O27, O28 and O29.
-/

namespace Sys2Proof.Machine

/-! ### Frames of a port's opening and closing -/

/-- A change of one port changes nothing else. -/
theorem modPort_frame_port (s : State) (i : Initiator) (f : Port → Port) :
    s.Frame (s.modPort i f) [.portState i, .granted i, .queue i] := by
  have hother : ∀ j, j ≠ i → (s.modPort i f).port j = s.port j := fun j hj => by rw [port_modPort, if_neg (Ne.symm hj)]
  refine ⟨rfl, fun p hp => ?_⟩
  simp only [List.mem_cons, not_or] at hp
  obtain ⟨hstate, hgranted, hqueue, -⟩ := hp
  cases p with
  | portState j => exact decide_eq_true (by rw [hother j fun h => hstate (by rw [h])])
  | granted j => exact decide_eq_true (by rw [hother j fun h => hgranted (by rw [h])])
  | queue j => exact decide_eq_true (by rw [hother j fun h => hqueue (by rw [h])])
  | histogramIndex => exact decide_eq_true ⟨rfl, rfl⟩
  | _ => exact decide_eq_true rfl

/-- A change of one port that leaves its queue. -/
theorem modPort_frame_of_queue (s : State) (i : Initiator) (f : Port → Port) (hf : (f (s.port i)).queue = (s.port i).queue) :
    s.Frame (s.modPort i f) [.portState i, .granted i] := by
  refine frame_narrow (modPort_frame_port s i f) fun p hp hn => ?_
  obtain rfl : p = .queue i := by
    simp only [List.mem_cons, List.not_mem_nil, or_false] at hp hn
    tauto
  exact decide_eq_true (by rw [port_modPort, if_pos rfl, hf])

/-! ### The completion of a drain (R142) -/

section
variable {s : State} {i : Initiator}

theorem drainDue_iff : s.drainDue i = true ↔ (s.port i).state = .draining ∧ s.outstanding i = 0 := by
  simp [State.drainDue]

theorem takeZeroNotice_of_due (h : s.drainDue i = true) : s.takeZeroNotice i = s.completeDrain i := if_pos (drainDue_iff.mp h)

theorem takeZeroNotice_of_not_due (h : s.drainDue i = false) : s.takeZeroNotice i = s :=
  if_neg fun hc => Bool.false_ne_true (h.symm.trans (drainDue_iff.mpr hc))

end

section
variable (s : State) (i j : Initiator)

theorem port_completeDrain :
    (s.completeDrain i).port j = if i = j then { s.port j with state := .fenced, granted := 0 } else s.port j :=
  port_modPort (s.send i .revoke) i j _

theorem sentTo_completeDrain : (s.completeDrain i).sentTo j = if i = j then s.sentTo j ++ [.revoke] else s.sentTo j :=
  sentTo_send s i j _

theorem flag_completeDrain (c : Cause) : (s.completeDrain i).flag c = (s.flag c || decide (c = .drainDone i)) :=
  flag_raise ((s.send i .revoke).modPort i fun p => { p with state := .fenced, granted := 0 }) _ c

theorem completeDrain_frame : s.Frame (s.completeDrain i) [.link i, .portState i, .granted i, .flag (.drainDone i)] :=
  frame_trans (frame_trans (send_frame s i .revoke) (modPort_frame_of_queue _ i _ rfl)) (raise_frame _ _)

end

/-- Settles O27: the notice completes a drain that is due, and does nothing else. -/
theorem drainCompletes : Obligations.DrainCompletes := by
  intro p s hr
  have hnext := next_of_high hr fun t => t.takeZeroNotice p
  refine ⟨fun hd ho => ?_, fun hnot => ?_⟩
  · rw [takeZeroNotice_of_due (drainDue_iff.mpr ⟨hd, ho⟩)] at hnext
    have hport : (s.completeDrain p).port p = { s.port p with state := .fenced, granted := 0 } := by
      rw [port_completeDrain, if_pos rfl]
    refine ⟨_, hnext, by rw [sentTo_completeDrain, if_pos rfl], by rw [hport], by rw [hport], ?_, ?_⟩
    · rw [flag_completeDrain, decide_eq_true rfl, Bool.or_true]
    · exact frame_mono (completeDrain_frame s p) (by simp)
  · have hnone : s.drainDue p = false := Bool.eq_false_iff.mpr fun hdue => by
      obtain ⟨hd, ho⟩ := drainDue_iff.mp hdue
      exact hnot.elim (absurd hd) (absurd ho)
    rw [takeZeroNotice_of_not_due hnone] at hnext
    exact hnext

/-! ### PORT_ENABLE (R138) -/

/-- A port command with its argument in range is the port's act, completed with the port's status (R150, R191). -/
theorem portCommand_next {s : State} {p : Initiator} (hr : s.rstN = true) (hp : s.management.argument.toNat = p) (code : Word)
    (act : Initiator → State → State × CommandStatus) :
    (.next (s.outOfReset fun t => t.withArgument 4 code act) : Host.Outcome State Fault Refusal) =
      .next ((act p s).1.complete code (act p s).2) := by
  rw [next_of_high hr, withArgument_of_lt s 4 code act p hp]

/-- A port opened: eight credits are sent and granted (R138). -/
def State.openedPort (s : State) (i : Initiator) : State :=
  (s.send i (.credit 8)).modPort i fun p => { p with state := .active, granted := 8 }

theorem openedPort_frame (s : State) (i : Initiator) : s.Frame (s.openedPort i) [.link i, .portState i, .granted i] :=
  frame_trans (send_frame s i (.credit 8)) (modPort_frame_of_queue _ i _ rfl)

theorem enablePort_of_closed {s : State} {i : Initiator} (h : (s.port i).state = .disabled ∨ (s.port i).state = .fenced) :
    s.enablePort i = (s.openedPort i, .done) := by
  rcases h with h | h <;> simp only [State.enablePort, h] <;> rfl

theorem enablePort_of_open {s : State} {i : Initiator} (h : (s.port i).state = .active ∨ (s.port i).state = .draining) :
    s.enablePort i = (s, .refusedState) := by
  rcases h with h | h <;> simp only [State.enablePort, h]

/-- Settles O28: a closed port is opened, an open one refuses. -/
theorem portEnableOpens : Obligations.PortEnableOpens := by
  intro p s hr hp
  have hnext := portCommand_next hr hp Config.codePortEnable fun p t => t.enablePort p
  refine ⟨fun h => ?_, fun h => ?_⟩
  · rw [enablePort_of_closed h] at hnext
    have hport : (s.openedPort p).port p = { s.port p with state := .active, granted := 8 } :=
      (port_modPort (s.send p (.credit 8)) p p _).trans (if_pos rfl)
    have hsent : (s.openedPort p).sentTo p = s.sentTo p ++ [.credit 8] := (sentTo_send s p p _).trans (if_pos rfl)
    have hframe := frame_trans (openedPort_frame s p) (complete_frame _ Config.codePortEnable .done)
    have hcompletes := complete_completes (s := s) (u := s.openedPort p) rfl Config.codePortEnable .done
    rw [complete_of_done] at hnext hframe hcompletes
    refine ⟨_, hnext, hcompletes, hsent, congrArg Port.granted hport, congrArg Port.state hport, frame_mono hframe fun q hq => ?_⟩
    simp only [List.mem_append, List.mem_cons] at hq ⊢
    tauto
  · rw [enablePort_of_open h] at hnext
    exact ⟨_, hnext, complete_completes rfl _ _, complete_frame _ _ _⟩

/-! ### A queue refused (R140, R144) -/

/-- What the counters gained is as well what they gained by a later state with the same monitor. -/
theorem Tallies.of_same {s t u : State} {g : CounterIdx → Nat} (h : Tallies s t g) (hm : u.monitor = t.monitor) : Tallies s u g :=
  (h.trans (.of_monitor hm)).congr fun _ => Nat.add_zero _

/-- What the refusals of a whole queue do on the way from `s` to `t`: the answers sent, with their credits, and the reports taken. -/
structure RefusesAll (s t : State) (i : Initiator) (answers : List ToInitiator) (n : Nat) : Prop where
  sent : t.sentTo i = s.sentTo i ++ answers
  frame : s.Frame t (.queue i :: .granted i :: .link i :: Piece.ofReport)
  tallies : s.monitor.mayFreeze = false → Tallies s t (s.takenBy (List.replicate n (refusedReport i)))

namespace RefusesAll

theorem trans {s t u : State} {i : Initiator} {a b : List ToInitiator} {m n : Nat} (h : RefusesAll s t i a m) (k : RefusesAll t u i b n) :
    RefusesAll s u i (a ++ b) (m + n) where
  sent := by rw [k.sent, h.sent, List.append_assoc]
  frame := frame_mono (frame_trans h.frame k.frame) fun _ hp => (List.mem_append.mp hp).elim id id
  tallies hm := ((h.tallies hm).trans (k.tallies ((h.tallies hm).mayFreeze hm))).congr fun c => by
    rw [(h.tallies hm).takenBy, List.replicate_add, takenBy_append]

/-- The emptied queue, before any answer. -/
theorem of_emptied (s : State) (i : Initiator) : RefusesAll s (s.modPort i fun p => { p with queue := [] }) i [] 0 where
  sent := (List.append_nil _).symm
  frame := frame_mono (modPort_frame s i _ rfl) (by simp)
  tallies _ := (Tallies.of_monitor (State.modPort_monitor ..)).congr fun c => (takenBy_nil s c).symm

/-- A refusal is its answer, with or without a credit, and one report (R44). -/
theorem of_report {s t : State} {i : Initiator} {a : List ToInitiator} (hsent : t.sentTo i = s.sentTo i ++ a)
    (hframe : s.Frame t [.queue i, .granted i, .link i]) (hm : t.monitor = s.monitor) : RefusesAll s (t.report [refusedReport i]) i a 1 where
  sent := by
    rw [State.sentTo, (report_onlyMonitor _ _ none).links]
    exact hsent
  frame := frame_trans hframe (report_frame t _)
  tallies h := by
    have hsame : Tallies s t fun _ => 0 := .of_monitor hm
    refine (hsame.trans (report_tallies _ _ (hsame.mayFreeze h))).congr fun c => ?_
    rw [hsame.takenBy, Nat.zero_add]
    rfl

theorem refuse (s : State) (i : Initiator) (r : Request) : RefusesAll s (s.refuse i r) i [.response r.tag .errRefused []] 1 :=
  of_report ((sentTo_send s i i _).trans (if_pos rfl)) (frame_mono (send_frame s i _) (by simp)) rfl

theorem refuseWithCredit (s : State) (i : Initiator) (r : Request) :
    RefusesAll s (s.refuseWithCredit i r) i [.response r.tag .errRefused [], .credit 1] 1 := by
  refine of_report ?_ ?_ rfl
  · rw [sentTo_returnCredit, if_pos rfl, sentTo_send, if_pos rfl, List.append_assoc]
    rfl
  · have hcredit := modPort_frame (s.send i (.response r.tag .errRefused [])) i (fun p => { p with granted := p.granted + 1 }) rfl
    refine frame_mono (frame_trans (frame_trans (send_frame s i _) hcredit) (send_frame _ i (.credit 1))) fun p hp => ?_
    simp only [List.mem_append, List.mem_cons] at hp ⊢
    tauto

/-- The requests of a queue refused one after another. -/
theorem foldl {refuse : State → Request → State} {i : Initiator} {answers : Request → List ToInitiator}
    (h : ∀ t r, RefusesAll t (refuse t r) i (answers r) 1) (q : List Request) {s t : State} {a : List ToInitiator} {n : Nat}
    (ht : RefusesAll s t i a n) : RefusesAll s (q.foldl refuse t) i (a ++ q.flatMap answers) (n + q.length) := by
  induction q generalizing t a n with
  | nil => simpa using ht
  | cons r q ih => simpa [Nat.add_comm, Nat.add_left_comm] using ih (ht.trans (h t r))

end RefusesAll

theorem refuseQueue_refusesAll (s : State) (i : Initiator) : RefusesAll s (s.refuseQueue i) i
    ((s.port i).queue.map fun r => .response r.tag .errRefused []) (s.port i).queue.length := by
  have h := RefusesAll.foldl (fun t r => .refuse t i r) (s.port i).queue (.of_emptied s i)
  rw [List.nil_append, Nat.zero_add, ← List.map_eq_flatMap] at h
  exact h

theorem refuseQueueWithCredit_refusesAll (s : State) (i : Initiator) : RefusesAll s (s.refuseQueueWithCredit i) i
    ((s.port i).queue.flatMap fun r => [.response r.tag .errRefused [], .credit 1]) (s.port i).queue.length := by
  have h := RefusesAll.foldl (fun t r => .refuseWithCredit t i r) (s.port i).queue (.of_emptied s i)
  rw [List.nil_append, Nat.zero_add] at h
  exact h

/-! ### PORT_DRAIN (R140) -/

/-- The port whose drain begins: its queue refused with credits, DRAINING, without a head (R140). -/
def State.begunDraining (s : State) (i : Initiator) : State :=
  ((s.refuseQueueWithCredit i).modPort i fun p => { p with state := .draining }).setHead i .noHead

section
variable (s : State) (i : Initiator)

theorem port_begunDraining : (s.begunDraining i).port i =
    { state := .draining, granted := (s.port i).granted + (s.port i).queue.length, queue := [] } := by
  rw [State.begunDraining, port_setHead, port_modPort, if_pos rfl, port_refuseQueueWithCredit, if_pos rfl]

theorem begunDraining_frame : s.Frame (s.begunDraining i) ([.link i, .granted i, .portState i, .queue i, .head i] ++ Piece.ofReport) := by
  have hstate := modPort_frame_of_queue (s.refuseQueueWithCredit i) i (fun p => { p with state := .draining }) rfl
  refine frame_mono (frame_trans (frame_trans (refuseQueueWithCredit_refusesAll s i).frame hstate) (setHead_frame _ i .noHead)) fun p hp => ?_
  simp only [List.mem_append, List.mem_cons] at hp ⊢
  tauto

theorem outstanding_begunDraining : (s.begunDraining i).outstanding i = s.outstanding i :=
  outstanding_of_tracker (refuseQueueWithCredit_atPorts s i).1 i

theorem drainPort_of_active (h : (s.port i).state = .active) : s.drainPort i = ((s.begunDraining i).takeZeroNotice i, .done) := by
  simp only [State.drainPort, h]
  rfl

theorem drainPort_of_not_active (h : (s.port i).state ≠ .active) : s.drainPort i = (s, .refusedState) := by
  cases hp : (s.port i).state with
  | active => exact absurd hp h
  | _ => simp only [State.drainPort, hp]

end

/-- What a drain does at an ACTIVE port on the way from `s` to `t`, `now` saying that it completes at once (R140, R142). -/
structure DrainsPort (s t : State) (i : Initiator) (now : Bool) : Prop where
  sent : t.sentTo i = s.sentTo i ++ ((s.port i).queue.flatMap fun r => [.response r.tag .errRefused [], .credit 1]) ++
    if now then [.revoke] else []
  port : t.port i = if now then { state := .fenced, granted := 0, queue := [] }
    else { state := .draining, granted := (s.port i).granted + (s.port i).queue.length, queue := [] }
  head : t.head i = .noHead
  flag : ∀ c, c ≠ .counterOvf → t.flag c = (s.flag c || (now && decide (c = .drainDone i)))
  tallies : s.monitor.mayFreeze = false → Tallies s t (s.takenBy ((s.port i).queue.map fun _ => refusedReport i))
  frame : s.Frame t ([.link i, .granted i, .portState i, .queue i, .head i, .flag (.drainDone i)] ++ Piece.ofReport)

/-- The beginning of a drain (R140). -/
theorem begunDraining_drains (s : State) (i : Initiator) : DrainsPort s (s.begunDraining i) i false where
  sent := (refuseQueueWithCredit_refusesAll s i).sent.trans (List.append_nil _).symm
  port := port_begunDraining s i
  head := (head_setHead _ i i _).trans (if_pos rfl)
  flag c hc := by
    rw [Bool.false_and, Bool.or_false]
    exact of_decide_eq_true ((begunDraining_frame s i).2 (.flag c) (by simp [Piece.ofReport, hc]))
  tallies hm := by
    rw [List.map_const']
    exact ((refuseQueueWithCredit_refusesAll s i).tallies hm).of_same rfl
  frame := frame_mono (begunDraining_frame s i) fun p hp => by
    simp only [List.mem_append, List.mem_cons] at hp ⊢
    tauto

/-- A drain with nothing outstanding completes at once (R140, R142). -/
theorem DrainsPort.complete {s t : State} {i : Initiator} (h : DrainsPort s t i false) : DrainsPort s (t.completeDrain i) i true where
  sent := by
    rw [sentTo_completeDrain, if_pos rfl, h.sent]
    simp
  port := by
    rw [port_completeDrain, if_pos rfl, h.port]
    rfl
  head := h.head
  flag c hc := by
    rw [flag_completeDrain, h.flag c hc, Bool.false_and, Bool.or_false, Bool.true_and]
  tallies hm := (h.tallies hm).of_same rfl
  frame := frame_mono (frame_trans h.frame (completeDrain_frame t i)) fun p hp => by
    simp only [List.mem_append, List.mem_cons] at hp ⊢
    tauto

theorem drainDue_begunDraining (s : State) (i : Initiator) : (s.begunDraining i).drainDue i = decide (s.outstanding i = 0) := by
  simp [State.drainDue, port_begunDraining, outstanding_begunDraining]

theorem drainPort_drains (s : State) (i : Initiator) :
    DrainsPort s ((s.begunDraining i).takeZeroNotice i) i (decide (s.outstanding i = 0)) := by
  have hbegun := begunDraining_drains s i
  rw [← drainDue_begunDraining]
  generalize s.begunDraining i = t at *
  cases hd : t.drainDue i with
  | false =>
    rw [takeZeroNotice_of_not_due hd]
    exact hbegun
  | true =>
    rw [takeZeroNotice_of_due hd]
    exact hbegun.complete

/-- Settles O29: an ACTIVE port refuses its queue and drains, every other refuses the command. -/
theorem portDrainCloses : Obligations.PortDrainCloses := by
  intro p s hr hp
  have hnext := portCommand_next hr hp Config.codePortDrain fun p t => t.drainPort p
  refine ⟨fun h => ?_, fun h => ?_⟩
  · rw [drainPort_of_active s p h] at hnext
    obtain ⟨hsent, hport, hhead, hflag, htallies, hframe⟩ := drainPort_drains s p
    generalize (s.begunDraining p).takeZeroNotice p = t at *
    have hcompletes : s.Completes (t.complete Config.codePortDrain .done) Config.codePortDrain .done :=
      complete_completes ((hflag _ (by simp)).trans (by simp)) _ _
    have hcommand := frame_trans hframe (complete_frame t Config.codePortDrain .done)
    have hcounts : s.Counts (t.complete Config.codePortDrain .done) _ := counts_of_tallies fun hm => (htallies hm).of_same (by rw [complete_of_done])
    simp only [decide_eq_true_eq] at hsent hport
    rw [complete_of_done] at hnext hcompletes hcommand hcounts
    exact ⟨_, hnext, hcompletes, hsent, hport, hhead, (hflag _ (by simp)).trans (by simp), hcounts, hcommand⟩
  · rw [drainPort_of_not_active s p h] at hnext
    exact ⟨_, hnext, complete_completes rfl _ _, complete_frame _ _ _⟩

end Sys2Proof.Machine
end

section
/-!
Claims that close a port, by PORT_FENCE or a LINK_RESET (R19, R20, R144, R147), and O9, O10 and O30.
-/

namespace Sys2Proof.Machine

/-! ### A silent claim settles as one that answers (R17, R20) -/

/-- The state with other messages sent. -/
def State.withLinks (s : State) (li : Links) : State := { s with links := li }

section
variable (s : State) (li : Links)

theorem enqueue_withLinks (x : EntryIdx) : (s.withLinks li).enqueue x = (s.enqueue x).withLinks li := by
  unfold State.enqueue
  rw [show (s.withLinks li).entry x = s.entry x from rfl]
  split
  · split <;> rfl
  · rfl

theorem foldl_enqueue_withLinks (l : List EntryIdx) : l.foldl State.enqueue (s.withLinks li) = (l.foldl State.enqueue s).withLinks li := by
  induction l generalizing s with
  | nil => rfl
  | cons x l ih => rw [List.foldl_cons, enqueue_withLinks, ih, List.foldl_cons]

theorem freeEntry_withLinks (x : EntryIdx) : (s.withLinks li).freeEntry x = (s.freeEntry x).withLinks li := by
  unfold State.freeEntry
  rw [show (s.withLinks li).entry x = s.entry x from rfl]
  cases s.entry x with
  | none => rfl
  | some e => exact foldl_enqueue_withLinks ((s.unqueue x).mapEntries (unlink x e)) li _

theorem answerWith_withLinks (a : Option Status) (e : Entry) : (s.answerWith a e).withLinks li = s.withLinks li := by
  cases a with
  | none => rfl
  | some st =>
    simp only [State.answerWith, State.answer]
    split <;> rfl

variable (sel : EntryIdx → Entry → Bool) (a : Option Status) (c : DetachCause)

/-- An entry's turn in a silent claim is its turn in one that answers, but for what is sent. -/
theorem settleEntry_withLinks (l : List Settled) (x : EntryIdx) : settleEntry sel none c (s.withLinks li, l) x =
    ((settleEntry sel a c (s, l) x).1.withLinks li, (settleEntry sel a c (s, l) x).2) := by
  by_cases hpass : ∀ e, s.entry x = some e → sel x e = false ∨ e.phase.isDetached = true
  · rw [settleEntry_of_pass sel none c (s.withLinks li) l x hpass, settleEntry_of_pass sel a c s l x hpass]
  · push Not at hpass
    obtain ⟨e, hx, hs, hd⟩ := hpass
    have hs : sel x e = true := Bool.eq_true_of_not_eq_false hs
    rcases e.phase.cases_live with ⟨hp, -⟩ | ⟨hp, -⟩ | ⟨hp, -⟩
    · exact absurd hp hd
    · rw [settleEntry_of_issued sel none c (s.withLinks li) l x hx hs hp, settleEntry_of_issued sel a c s l x hx hs hp,
        ← answerWith_withLinks s li a e]
      rfl
    · rw [settleEntry_of_unissued sel none c (s.withLinks li) l x hx hs hp, settleEntry_of_unissued sel a c s l x hx hs hp,
        ← freeEntry_withLinks, answerWith_withLinks]
      rfl

theorem claim_withLinks : (s.withLinks li).claim sel none c = ((s.claim sel a c).1.withLinks li, (s.claim sel a c).2) := by
  have fold : ∀ (l : List EntryIdx) (u : State) (done : List Settled), l.foldl (settleEntry sel none c) (u.withLinks li, done) =
      ((l.foldl (settleEntry sel a c) (u, done)).1.withLinks li, (l.foldl (settleEntry sel a c) (u, done)).2) := by
    intro l
    induction l with
    | nil => exact fun _ _ => rfl
    | cons x l ih =>
      intro u done
      rw [List.foldl_cons, settleEntry_withLinks u li sel a, ih, List.foldl_cons]
  exact fold entryIndices s []

theorem withLinks_self : s.withLinks s.links = s := rfl

/-- A silent claim leaves what one that answers leaves, with nothing sent. -/
theorem claim_silent : (s.claim sel none c).1 = (s.claim sel a c).1.withLinks s.links := by
  have h := claim_withLinks s s.links sel a c
  rw [withLinks_self] at h
  rw [h]

end

/-- A claim, silent or not, leaves the tracker and the issue queues exactly so (R9, R10, R15). -/
theorem claim_settlesLive {sel : Entry → Bool} (hsel : SteadySelection sel) (a : Option Status) (c : DetachCause) {s : State}
    (hs : s.TrackerLaws) : s.SettlesLive (s.claim (fun _ e => sel e) a c).1 sel c := by
  cases a with
  | some st => exact settlesLive_of_claimedExactly (claim_claimedExactly hsel st c hs)
  | none =>
    have hanswered := settlesLive_of_claimedExactly (claim_claimedExactly hsel .errRefused c hs)
    rw [claim_silent s (fun _ e => sel e) (some .errRefused) c]
    generalize (s.claim (fun _ e => sel e) (some .errRefused) c).1 = u at *
    exact hanswered

/-! ### A claim of one initiator, after an event at the ports -/

theorem trackerLaws_of_atPorts {s t : State} (h : AtPorts s t) (hs : s.TrackerLaws) : t.TrackerLaws :=
  trackerLaws_congr h.1 (fun c => by rw [h.2]) hs

theorem settledBy_of_atPorts {s t u : State} (h : AtPorts s t) (sel : Entry → Bool) (c : DetachCause) (x : EntryIdx) :
    t.settledBy u sel c x = s.settledBy u sel c x := by
  simp only [State.settledBy, State.entryKept, State.entryDetached, entry_of_tracker h.1]

theorem settlesLive_of_atPorts {s t u : State} (h : AtPorts s t) {sel : Entry → Bool} {c : DetachCause} (k : t.SettlesLive u sel c) :
    s.SettlesLive u sel c := by
  simpa only [State.SettlesLive, State.Settles, State.releases, entry_of_tracker h.1, h.2] using k

theorem answersTo_of_atPorts {s t : State} (h : AtPorts s t) (i : Initiator) (sel : Entry → Bool) (st : Status) :
    t.answersTo i sel st = s.answersTo i sel st := by
  simp only [State.answersTo, entry_of_tracker h.1]

/-- A claim of one initiator answers no other (R11). -/
theorem answersTo_other (s : State) {i j : Initiator} (hij : i ≠ j) (st : Status) :
    s.answersTo j (fun e => e.initiator = i) st = [] := by
  rw [State.answersTo, List.filterMap_eq_nil_iff]
  intro x _
  cases hx : s.entry x with
  | none => rfl
  | some e =>
    have hnot : ¬(e.initiator = i ∧ e.initiator = j) := fun ⟨hi, hj⟩ => hij (hi.symm.trans hj)
    simp only [Option.bind_some]
    rw [if_neg]
    simp only [Bool.and_eq_true, decide_eq_true_eq]
    exact fun h => hnot ⟨h.1.1, h.2⟩

/-- The selection of one initiator, as the obligations write it. -/
theorem steady_of_initiator (i : Initiator) : SteadySelection fun e => decide (e.initiator = i) := steady_initiator i

/-- What the claim of one initiator leaves of the tracker and the target port on the way from `s` to `u`. -/
structure SettlesOf (s u : State) (i : Initiator) (c : DetachCause) : Prop where
  settled : ∀ x : EntryIdx, s.settledBy u (fun e => e.initiator = i) c x = true
  exactly : s.TrackerLaws → s.SettlesLive u (fun e => e.initiator = i) c
  state : u.target.state = s.target.state
  detachLimit : u.target.detachLimit = s.target.detachLimit

theorem claim_settlesOf {s t : State} (h : AtPorts s t) (i : Initiator) (a : Option Status) (c : DetachCause) :
    SettlesOf s (t.claim (fun _ e => decide (e.initiator = i)) a c).1 i c where
  settled x := by
    rw [← settledBy_of_atPorts h]
    exact claim_settledBy (steady_of_initiator i) a c t x
  exactly hs := settlesLive_of_atPorts h (claim_settlesLive (steady_of_initiator i) a c (trackerLaws_of_atPorts h hs))
  state := by rw [(claim_onlyClaims ..).targetState, h.2]
  detachLimit := by rw [(claim_onlyClaims ..).detachLimit, h.2]

/-- Later events that leave the tracker and the issue queues leave what the claim settled. -/
theorem SettlesOf.later {s u v : State} {i : Initiator} {c : DetachCause} (h : SettlesOf s u i c) (htracker : v.tracker = u.tracker)
    (hqueue : ∀ d, v.target.queueOf d = u.target.queueOf d) :
    (∀ x : EntryIdx, s.settledBy v (fun e => e.initiator = i) c x = true) ∧
      (s.TrackerLaws → s.SettlesLive v (fun e => e.initiator = i) c) := by
  refine ⟨fun x => settledBy_trans (h.settled x) (entryKept_of_tracker htracker x), fun hs => ?_⟩
  obtain ⟨hentry, hhigh, hnormal⟩ := h.exactly hs
  exact ⟨fun y => (entry_of_tracker htracker y).trans (hentry y), (hqueue .high).trans hhigh, (hqueue .normal).trans hnormal⟩

/-! ### The notices of a claim that other events surround -/

/-- The state with the entries of `s`. -/
def State.tracking (u s : State) : State := { u with tracker := s.tracker }

/-- The notices read of the state before the claim the counts, the target's state and its limit, and its flag alone (R60, R116). -/
theorem notices_takesNotices_of_kept {s u : State} (hstate : u.target.state = s.target.state)
    (hlimit : u.target.detachLimit = s.target.detachLimit) (hflag : u.flag .targetState = s.flag .targetState) :
    TakesNotices s u (State.notices s u) := by
  have hclaim : OnlyClaims (u.tracking s) u :=
    ⟨⟨u.tracker, u.target.highQueue, u.target.normalQueue, u.links.toInitiator, rfl⟩, fun _ => List.prefix_rfl⟩
  have hdetached : (u.tracking s).detachedCount = s.detachedCount := detachedCount_of_tracker rfl
  have hfree : (u.tracking s).freeCount = s.freeCount := freeCount_of_tracker rfl
  have hstate' : (u.tracking s).target.state = s.target.state := hstate
  have hlimit' : (u.tracking s).target.detachLimit = s.target.detachLimit := hlimit
  have hflag' : (u.tracking s).flag .targetState = s.flag .targetState := hflag
  have hnotices : State.notices (u.tracking s) u = State.notices s u := by
    simp only [State.notices, hdetached, hfree, hstate']
  have h := notices_takesNotices hclaim
  have hchecks : ∀ v i, (u.tracking s).checksAfter u v i = s.checksAfter u v i := fun v i => by
    simp only [State.checksAfter, State.startsRecheck, hfree, hstate']
  have hcount := h.detachedCount
  have hview := h.view
  have hbudget := h.budgetWait
  have htallies := h.tallies
  simp only [hchecks] at hview hbudget htallies
  rw [State.TakesDetachedCount, hdetached, hstate', hlimit', hflag'] at hcount
  rw [hnotices] at *
  exact { h with detachedCount := hcount, view := hview, budgetWait := hbudget, tallies := htallies }

/-- The check of heads that follows a claim, each port standing as the claim and what surrounds it left it. -/
theorem TakesNotices.checks {s u v : State} {rs : List Report} (h : TakesNotices s u v)
    (hflag : u.flag .budgetWait = s.flag .budgetWait) (htally : s.monitor.mayFreeze = false → Tallies s u (s.takenBy rs)) :
    s.Checks v (s.startsRecheck v) u.view rs := by
  refine ⟨h.view, ?_, counts_of_tallies fun hm => ?_⟩
  · rw [← hflag]
    exact h.budgetWait
  · refine ((htally hm).trans (h.tallies ((htally hm).mayFreeze hm))).congr fun c => ?_
    rw [(htally hm).takenBy, takenBy_append]
    rfl

/-! ### A port closed by a claim (R144, R147) -/

/-- Every port as `s` holds it, but port `i`, which is closed and has `sent` on its link. -/
def State.viewClosed (s : State) (i : Initiator) (sent : List ToInitiator) (j : Initiator) : PortView :=
  if j = i then { queue := [], granted := 0, status := .noHead, sent := sent } else s.view j

theorem viewClosed_self (s : State) (i : Initiator) (sent : List ToInitiator) :
    s.viewClosed i sent i = { queue := [], granted := 0, status := .noHead, sent := sent } := if_pos rfl

theorem view_closePort (u : State) (i j : Initiator) (st : PortState) : (u.closePort i st).view j =
    if j = i then { queue := [], granted := 0, status := .noHead, sent := u.sentTo j } else u.view j := by
  have hsent : (u.closePort i st).sentTo j = u.sentTo j := rfl
  rw [State.view, port_closePort, head_closePort, hsent]
  by_cases hij : j = i
  · rw [if_pos hij.symm, if_pos hij.symm, if_pos hij]
  · rw [if_neg (Ne.symm hij), if_neg (Ne.symm hij), if_neg hij]
    rfl

theorem closePort_frame (s : State) (i : Initiator) (st : PortState) :
    s.Frame (s.closePort i st) [.portState i, .granted i, .queue i, .head i] :=
  frame_trans (modPort_frame_port s i _) (setHead_frame _ i .noHead)

/-- What closes port `i` by a claim with cause `c` on the way from `s` to `u`, its notices not yet taken. -/
structure ClosesPort (s u : State) (i : Initiator) (c : DetachCause) (sent : List ToInitiator) (rs : List Report) : Prop where
  settles : SettlesOf s u i c
  portState : (u.port i).state = .fenced
  view : ∀ j, u.view j = s.viewClosed i sent j
  targetFlag : u.flag .targetState = s.flag .targetState
  budgetWait : u.flag .budgetWait = s.flag .budgetWait
  tallies : s.monitor.mayFreeze = false → Tallies s u (s.takenBy rs)

/-- What the closing of port `i` by a claim with cause `c`, its notices taken, has done on the way from `s` to `v`. -/
structure PortClosed (s v : State) (i : Initiator) (c : DetachCause) (sent : List ToInitiator) (rs : List Report) : Prop where
  port : v.port i = { state := .fenced, granted := 0, queue := [] }
  head : v.head i = .noHead
  sentTo : v.sentTo i = sent
  settled : ∀ x : EntryIdx, s.settledBy v (fun e => e.initiator = i) c x = true
  exactly : s.TrackerLaws → s.SettlesLive v (fun e => e.initiator = i) c
  detachedCount : s.TakesDetachedCount v
  checks : s.Checks v (s.startsRecheck v) (s.viewClosed i sent) rs

/-- The notices find the closed port without a head, and leave it. -/
theorem ClosesPort.notices {s u : State} {i : Initiator} {c : DetachCause} {sent : List ToInitiator} {rs : List Report}
    (h : ClosesPort s u i c sent rs) : PortClosed s (State.notices s u) i c sent rs := by
  have hself := (h.view i).trans (viewClosed_self s i sent)
  have hview := (view_notices_of_noHead s u i (congrArg PortView.status hself)).trans hself
  have hstate : ((State.notices s u).port i).state = (u.port i).state :=
    of_decide_eq_true ((notices_frame s u).2 (.portState i) (by simp [Piece.ofNotices, Piece.ofRecheck, Piece.ofReport]))
  have hn := notices_takesNotices_of_kept h.settles.state h.settles.detachLimit h.targetFlag
  obtain ⟨hsettled, hexactly⟩ := h.settles.later hn.tracker hn.queueOf
  have hchecks := hn.checks h.budgetWait h.tallies
  rw [funext h.view] at hchecks
  generalize State.notices s u = v at *
  have hgranted : (v.port i).granted = 0 := congrArg PortView.granted hview
  have hqueue : (v.port i).queue = [] := congrArg PortView.queue hview
  have hport : v.port i = { state := .fenced, granted := 0, queue := [] } := by
    rw [← hqueue, ← hgranted, ← h.portState, ← hstate]
  exact ⟨hport, congrArg PortView.status hview, congrArg PortView.sent hview, hsettled, hexactly, hn.detachedCount, hchecks⟩

/-- The completion of a command leaves all of it. -/
theorem PortClosed.complete {s v : State} {i : Initiator} {c : DetachCause} {sent : List ToInitiator} {rs : List Report}
    (h : PortClosed s v i c sent rs) (code : Word) : PortClosed s (v.complete code .done) i c sent rs := by
  have hchecks := checks_complete h.checks code
  rw [complete_of_done] at hchecks ⊢
  exact ⟨h.port, h.head, h.sentTo, h.settled, h.exactly, h.detachedCount, hchecks⟩

theorem takeZeroNotice_of_openPort {s : State} {i : Initiator} (h : s.openPort i = true ∨ (s.port i).state ≠ .draining) :
    s.takeZeroNotice i = s := by
  refine takeZeroNotice_of_not_due (Bool.eq_false_iff.mpr fun hdue => ?_)
  obtain ⟨hd, ho⟩ := drainDue_iff.mp hdue
  rcases h with h | h
  · simp [State.openPort, hd, ho] at h
  · exact h hd

theorem openPort_state {s : State} {i : Initiator} (h : s.openPort i = true) :
    (s.port i).state = .active ∨ (s.port i).state = .draining := by
  simp only [State.openPort, Bool.or_eq_true, Bool.and_eq_true, decide_eq_true_eq] at h
  exact h.imp id And.left

/-! ### PORT_FENCE (R144) -/

/-- The port as a fence refuses its queue, before the claim (R144 step 1). -/
def State.refusedForFence (s : State) (i : Initiator) : State := (s.refuseQueue i).setHead i .noHead

/-- The port closed by a fence, the claim's notices not yet taken (R144). -/
def State.fencedByClaim (s : State) (i : Initiator) : State := (((s.refusedForFence i).fenceClaim i).send i .revoke).closePort i .fenced

theorem fence_eq (s : State) (i : Initiator) : s.fence i = State.notices s (s.fencedByClaim i) := rfl

theorem fenceClaim_eq (s : State) (i : Initiator) :
    s.fenceClaim i = (s.claim (fun _ e => decide (e.initiator = i)) (some .errRefused) .fence).1 := rfl

/-- What a fence sends its initiator: the queue's answers, the claim's answers, and REVOKE (R144). -/
def State.fenceSends (s : State) (i : Initiator) : List ToInitiator :=
  s.sentTo i ++ ((s.port i).queue.map fun r => .response r.tag .errRefused []) ++ s.answersTo i (fun e => e.initiator = i) .errRefused ++
    [.revoke]

section
variable (s : State) (i : Initiator)

theorem refusedForFence_atPorts : AtPorts s (s.refusedForFence i) := (refuseQueue_atPorts s i).trans ⟨rfl, rfl⟩

theorem refusedForFence_frame : s.Frame (s.refusedForFence i) (.head i :: .queue i :: .granted i :: .link i :: Piece.ofReport) :=
  frame_mono (frame_trans (refuseQueue_refusesAll s i).frame (setHead_frame _ i .noHead)) fun p hp => by
    simp only [List.mem_append, List.mem_cons] at hp ⊢
    tauto

theorem sentTo_fenceClaim (t : State) (j : Initiator) :
    (t.fenceClaim i).sentTo j = t.sentTo j ++ t.answersTo j (fun e => e.initiator = i) .errRefused := by
  rw [fenceClaim_eq, (claim_claimedBelow (steady_of_initiator i) .errRefused .fence t).sent, take_entryIndices_all, answersTo_eq]

theorem view_refusedForFence {j : Initiator} (hj : j ≠ i) : (s.refusedForFence i).view j = s.view j := by
  have hframe := refusedForFence_frame s i
  refine view_ext (of_decide_eq_true (hframe.2 (.queue j) ?_)) (of_decide_eq_true (hframe.2 (.granted j) ?_))
    (of_decide_eq_true (hframe.2 (.head j) ?_)) (of_decide_eq_true (hframe.2 (.link j) ?_)) <;> simp [Piece.ofReport, hj]

theorem view_fencedByClaim (j : Initiator) : (s.fencedByClaim i).view j = s.viewClosed i (s.fenceSends i) j := by
  rw [State.fencedByClaim, view_closePort, State.viewClosed]
  by_cases hj : j = i
  · subst hj
    have hrefused : (s.refusedForFence j).sentTo j = _ := (refuseQueue_refusesAll s j).sent
    rw [if_pos rfl, if_pos rfl, sentTo_send, if_pos rfl, sentTo_fenceClaim, answersTo_of_atPorts (refusedForFence_atPorts s j), hrefused]
    rfl
  · have hclaim := fenceClaim_onlyClaims (s.refusedForFence i) i
    rw [if_neg hj, if_neg hj, ← view_refusedForFence s i hj]
    refine view_ext ?_ ?_ ?_ ?_
    · rw [port_of_ports (State.send_ports ..), port_of_ports hclaim.ports]
    · rw [port_of_ports (State.send_ports ..), port_of_ports hclaim.ports]
    · rw [State.head, State.send_admission, hclaim.admission, State.head]
    · rw [sentTo_send, if_neg (Ne.symm hj), sentTo_fenceClaim, answersTo_other _ (Ne.symm hj), List.append_nil]

theorem fencedByClaim_closes :
    ClosesPort s (s.fencedByClaim i) i .fence (s.fenceSends i) ((s.port i).queue.map fun _ => refusedReport i) := by
  have hrefused := refuseQueue_refusesAll s i
  have hframe := refusedForFence_frame s i
  have hclaim := fenceClaim_onlyClaims (s.refusedForFence i) i
  have hsettles := claim_settlesOf (refusedForFence_atPorts s i) i (some .errRefused) .fence
  have hview := view_fencedByClaim s i
  rw [← fenceClaim_eq] at hsettles
  unfold State.fencedByClaim at hview ⊢
  generalize (s.refusedForFence i).fenceClaim i = u at *
  have hflag : ∀ c, c ≠ .counterOvf → u.flag c = s.flag c := fun c hc =>
    (flag_of_interrupts hclaim.interrupts c).trans (of_decide_eq_true (hframe.2 (.flag c) (by simp [Piece.ofReport, hc])))
  refine ⟨⟨hsettles.settled, hsettles.exactly, hsettles.state, hsettles.detachLimit⟩, ?_, hview, hflag _ (by simp), hflag _ (by simp),
    fun hm => ?_⟩
  · rw [port_closePort, if_pos rfl]
  · rw [List.map_const']
    exact (hrefused.tallies hm).of_same hclaim.monitor

theorem fence_frame :
    s.Frame (s.fence i) ([.portState i, .granted i, .queue i, .head i, .link i] ++ Piece.ofClaim ++ Piece.ofNotices) := by
  have hclaimed := frame_trans (refusedForFence_frame s i) (fenceClaim_onlyClaims (s.refusedForFence i) i).frame
  rw [fence_eq, State.fencedByClaim]
  generalize (s.refusedForFence i).fenceClaim i = u at *
  have hclosed := frame_trans (frame_trans hclaimed (send_frame u i .revoke)) (closePort_frame _ i .fenced)
  refine frame_mono (frame_trans hclosed (notices_frame s _)) fun p hp => ?_
  have hlink : p ∈ initiators.map Piece.link → p ∈ Piece.ofNotices := fun h => ofRecheck_subset_ofNotices (links_subset_ofRecheck h)
  have hreport : p ∈ Piece.ofReport → p ∈ Piece.ofNotices := fun h => ofRecheck_subset_ofNotices (ofReport_subset_ofRecheck h)
  simp only [List.mem_append, List.mem_cons, List.not_mem_nil, or_false] at hp ⊢
  tauto

end

theorem fencePort_of_open {s : State} {i : Initiator} (h : s.openPort i = true) : s.fencePort i = (s.fence i, .done) := by
  rcases openPort_state h with hp | hp <;> simp only [State.fencePort, takeZeroNotice_of_openPort (.inl h), hp]

theorem fencePort_of_closed {s : State} {i : Initiator} (h : (s.port i).state = .disabled ∨ (s.port i).state = .fenced) :
    s.fencePort i = (s, .refusedState) := by
  have hnotice : s.takeZeroNotice i = s := takeZeroNotice_of_openPort (.inr (by rcases h with h | h <;> simp [h]))
  rcases h with h | h <;> simp only [State.fencePort, hnotice, h]

/-- Settles O30: an open port is closed by the fence claim, whose notices follow; a closed one refuses the command. -/
theorem portFenceCloses : Obligations.PortFenceCloses := by
  intro p s hr hp
  have hnext := portCommand_next hr hp Config.codePortFence fun p t => t.fencePort p
  refine ⟨fun h => ?_, fun h => ?_⟩
  · rw [fencePort_of_open h] at hnext
    have hclosed : PortClosed s (s.fence p) p .fence (s.fenceSends p) _ := (fencedByClaim_closes s p).notices
    have hframe := fence_frame s p
    generalize s.fence p = v at *
    have hrefused : v.flag .commandRefused = s.flag .commandRefused :=
      of_decide_eq_true (hframe.2 (.flag .commandRefused) (by simp [Piece.ofClaim, Piece.ofNotices, Piece.ofRecheck, Piece.ofReport]))
    obtain ⟨hport, hhead, -, hsettled, hexactly, hcount, hchecks⟩ := hclosed.complete Config.codePortFence
    exact ⟨_, hnext, complete_completes hrefused _ _, hport, hhead, hsettled, hexactly, hcount, hchecks,
      frame_trans hframe (complete_frame _ _ _)⟩
  · rw [fencePort_of_closed h] at hnext
    exact ⟨_, hnext, complete_completes rfl _ _, complete_frame _ _ _⟩

/-! ### LINK_RESET (R147, R149) -/

/-- The port as a LINK_RESET discards its queue, before the claim (R147). -/
def State.discardedForReset (s : State) (i : Initiator) : State := (s.modPort i fun p => { p with queue := [] }).setHead i .noHead

/-- The port closed by the claim of a LINK_RESET, its flag not yet raised nor its record handed (R147). -/
def State.closedByReset (s : State) (i : Initiator) : State := ((s.discardedForReset i).linkResetClaim i).closePort i .fenced

/-- The same with PORT_RESET raised and the record handed, the claim's notices not yet taken (R147). -/
def State.recordedReset (s : State) (i : Initiator) : State := ((s.closedByReset i).raise (.portReset i)).logFault (linkResetFault i)

theorem resetPort_eq (s : State) (i : Initiator) : s.resetPort i = State.notices s (s.recordedReset i) := rfl

theorem linkResetClaim_eq (s : State) (i : Initiator) :
    s.linkResetClaim i = (s.claim (fun _ e => decide (e.initiator = i)) none .linkReset).1 := rfl

theorem linkResetClaim_onlyClaims (s : State) (i : Initiator) : OnlyClaims s (s.linkResetClaim i) := by
  rw [linkResetClaim_eq]
  exact claim_onlyClaims ..

section
variable (s : State) (i : Initiator)

theorem discardedForReset_frame : s.Frame (s.discardedForReset i) [.queue i, .granted i, .head i] :=
  frame_trans (modPort_frame s i (fun p => { p with queue := [] }) rfl) (setHead_frame _ i .noHead)

theorem view_closedByReset (j : Initiator) : (s.closedByReset i).view j = s.viewClosed i (s.sentTo i) j := by
  have hclaim := linkResetClaim_onlyClaims (s.discardedForReset i) i
  have hlinks := linkResetClaim_links (s.discardedForReset i) i
  rw [State.closedByReset, view_closePort, State.viewClosed]
  generalize (s.discardedForReset i).linkResetClaim i = u at *
  by_cases hj : j = i
  · subst hj
    rw [if_pos rfl, if_pos rfl, State.sentTo, hlinks]
    rfl
  · have hdiscarded : (s.discardedForReset i).port j = s.port j := by
      rw [State.discardedForReset, port_setHead, port_modPort, if_neg (Ne.symm hj)]
    have hhead : (s.discardedForReset i).head j = s.head j := (head_setHead _ i j _).trans (if_neg (Ne.symm hj))
    have hport : u.port j = s.port j := (port_of_ports hclaim.ports j).trans hdiscarded
    rw [if_neg hj, if_neg hj]
    refine view_ext (by rw [hport]) (by rw [hport]) ?_ ?_
    · rw [State.head, hclaim.admission]
      exact hhead
    · rw [State.sentTo, hlinks]
      rfl

theorem closedByReset_closes : ClosesPort s (s.closedByReset i) i .linkReset (s.sentTo i) [] := by
  have hclaim := linkResetClaim_onlyClaims (s.discardedForReset i) i
  have hsettles := claim_settlesOf (s := s) (t := s.discardedForReset i) ⟨rfl, rfl⟩ i none .linkReset
  have hview := view_closedByReset s i
  rw [← linkResetClaim_eq] at hsettles
  unfold State.closedByReset at hview ⊢
  generalize (s.discardedForReset i).linkResetClaim i = u at *
  have hflag : ∀ c, u.flag c = s.flag c := flag_of_interrupts hclaim.interrupts
  refine ⟨⟨hsettles.settled, hsettles.exactly, hsettles.state, hsettles.detachLimit⟩, ?_, hview, hflag _, hflag _, fun _ => ?_⟩
  · rw [port_closePort, if_pos rfl]
  · have hmonitor : (u.closePort i .fenced).monitor = s.monitor := hclaim.monitor
    exact (Tallies.of_monitor hmonitor).congr fun c => (takenBy_nil s c).symm

theorem closedByReset_frame :
    s.Frame (s.closedByReset i) ([.portState i, .granted i, .queue i, .head i] ++ Piece.ofClaim ++ initiators.map .link) := by
  have hclaimed := frame_trans (discardedForReset_frame s i) (linkResetClaim_onlyClaims (s.discardedForReset i) i).frame
  rw [State.closedByReset]
  generalize (s.discardedForReset i).linkResetClaim i = u at *
  refine frame_mono (frame_trans hclaimed (closePort_frame u i .fenced)) fun p hp => ?_
  simp only [List.mem_append, List.mem_cons, List.not_mem_nil, or_false] at hp ⊢
  tauto

/-- The record handed changes nothing that the notices read. -/
theorem recordedReset_closes : ClosesPort s (s.recordedReset i) i .linkReset (s.sentTo i) [] := by
  obtain ⟨hsettles, hstate, hview, hflag, hbudget, htallies⟩ := closedByReset_closes s i
  have hrecorded := flag_logFault ((s.closedByReset i).raise (.portReset i)) (linkResetFault i)
  simp only [flag_raise] at hrecorded
  obtain ⟨l, f, honly⟩ := logFault_only ((s.closedByReset i).raise (.portReset i)) (linkResetFault i)
  unfold State.recordedReset
  rw [honly] at hrecorded ⊢
  generalize s.closedByReset i = u at *
  refine ⟨⟨hsettles.settled, hsettles.exactly, hsettles.state, hsettles.detachLimit⟩, hstate, hview, ?_, ?_,
    fun hm => (htallies hm).of_same rfl⟩
  · rw [hrecorded, hflag]
    split <;> simp
  · rw [hrecorded, hbudget]
    split <;> simp

theorem resetPort_flag : (s.resetPort i).flag (.portReset i) = true := by
  have hkept := (notices_frame s (s.recordedReset i)).2 (.flag (.portReset i)) (by simp [Piece.ofNotices, Piece.ofRecheck, Piece.ofReport])
  rw [resetPort_eq, of_decide_eq_true hkept, State.recordedReset, flag_logFault, flag_raise]
  simp

theorem resetPort_hands : s.HandsFault (s.resetPort i) (linkResetFault i) := by
  have hclosed := frame_trans (closedByReset_frame s i) (raise_frame (s.closedByReset i) (.portReset i))
  have hkeeps := ((KeepsLog.append (l := [.portState i, .granted i, .queue i, .head i]) (by simp [KeepsLog]) keepsLog_ofClaim).append
    keepsLog_links).append (m := [.flag (.portReset i)]) (by simp [KeepsLog])
  rw [resetPort_eq, State.recordedReset]
  generalize s.closedByReset i = u at *
  exact handsFault_of_frames hclosed hkeeps (logFault_hands _ _) (notices_frame s _) keepsLog_ofNotices

theorem resetPort_frame : s.Frame (s.resetPort i)
    ([.portState i, .granted i, .queue i, .head i, .flag (.portReset i)] ++ Piece.ofClaim ++ Piece.ofFault ++ Piece.ofNotices) := by
  have hclosed := frame_trans (closedByReset_frame s i) (raise_frame (s.closedByReset i) (.portReset i))
  rw [resetPort_eq, State.recordedReset]
  generalize s.closedByReset i = u at *
  have hrecorded := frame_trans hclosed (logFault_frame _ (linkResetFault i))
  refine frame_mono (frame_trans hrecorded (notices_frame s _)) fun p hp => ?_
  have hlink : p ∈ initiators.map Piece.link → p ∈ Piece.ofNotices := fun h => ofRecheck_subset_ofNotices (links_subset_ofRecheck h)
  simp only [List.mem_append, List.mem_cons, List.not_mem_nil, or_false] at hp ⊢
  tauto

end

theorem linkReset_of_open {s : State} {i : Initiator} (h : s.openPort i = true ∨ (s.port i).state = .fenced) :
    s.linkReset i = s.resetPort i := by
  have hnotice : s.takeZeroNotice i = s := takeZeroNotice_of_openPort (h.imp id fun hf => by simp [hf])
  rcases h.imp openPort_state id with (hp | hp) | hp <;> simp only [State.linkReset, hnotice, hp]

theorem linkReset_of_disabled {s : State} {i : Initiator} (h : (s.port i).state = .disabled) :
    s.linkReset i = s.logFault (linkResetFault i) := by
  have hnotice : s.takeZeroNotice i = s := takeZeroNotice_of_openPort (.inr (by simp [h]))
  simp only [State.linkReset, hnotice, h]

/-- Settles O9: a port that is not DISABLED is closed by the silent claim, the record is handed and the notices follow. -/
theorem linkResetClosesPort : Obligations.LinkResetClosesPort := by
  intro i s hr h
  have hnext := next_of_high hr fun t => t.linkReset i
  rw [linkReset_of_open h] at hnext
  have hclosed : PortClosed s (s.resetPort i) i .linkReset (s.sentTo i) [] := (recordedReset_closes s i).notices
  obtain ⟨hport, hhead, hsent, hsettled, hexactly, hcount, hchecks⟩ := hclosed
  exact ⟨_, hnext, hport, hhead, hsent, resetPort_flag s i, resetPort_hands s i, hsettled, hexactly, hcount, hchecks, resetPort_frame s i⟩

/-- Settles O10: at a DISABLED port the record is handed and nothing else happens. -/
theorem linkResetAtDisabledPort : Obligations.LinkResetAtDisabledPort := by
  intro i s hr h
  have hnext := next_of_high hr fun t => t.linkReset i
  rw [linkReset_of_disabled h] at hnext
  exact ⟨_, hnext, logFault_hands s _, logFault_frame s _⟩

end Sys2Proof.Machine
end

section
/-!
What meets a drain that is due (log entry 4), and O8.
-/

namespace Sys2Proof.Machine

/-! ### A due drain kept -/

/-- What names neither a port's state nor an entry. -/
def KeepsDrain (i : Initiator) (l : List Piece) : Prop := .portState i ∉ l ∧ ∀ x, .entry x ∉ l

theorem outstanding_of_frame {s t : State} {l : List Piece} (h : s.Frame t l) (hl : ∀ x, .entry x ∉ l) (i : Initiator) :
    t.outstanding i = s.outstanding i := by
  have hentry : t.entry = s.entry := funext fun x => of_decide_eq_true (h.2 (.entry x) (hl x))
  simp only [State.outstanding, State.countEntries, hentry]

theorem portState_of_frame {s t : State} {i : Initiator} {l : List Piece} (h : s.Frame t l) (hl : KeepsDrain i l) :
    (t.port i).state = (s.port i).state := of_decide_eq_true (h.2 (.portState i) hl.1)

theorem drainDue_of_frame {s t : State} {i : Initiator} {l : List Piece} (h : s.Frame t l) (hl : KeepsDrain i l) :
    t.drainDue i = s.drainDue i := by
  simp only [State.drainDue, portState_of_frame h hl, outstanding_of_frame h hl.2]

/-- A DRAINING port answers a REQUEST, or discards it, and changes nothing but its link, the log and the counters (R41). -/
theorem request_at_draining {s : State} {i : Initiator} (r : Request) (hr : s.rstN = true) (hd : (s.port i).state = .draining) :
    ∃ t, exec (.request i r) s = .next t ∧ s.Frame t (.link i :: (Piece.ofFault ++ Piece.ofReport)) := by
  obtain ⟨hovercredit, hduplicate⟩ := requestIsDiscarded i r s hr
  obtain ⟨-, hopen⟩ := requestRefusedOnArrival i r s hr
  have hfault : Piece.link i :: Piece.ofFault ⊆ .link i :: (Piece.ofFault ++ Piece.ofReport) :=
    List.cons_subset_cons _ (List.subset_append_left ..)
  by_cases hgranted : (s.port i).granted = 0
  · obtain ⟨t, ht, -, hframe⟩ := hovercredit (.inr ⟨.inr hd, hgranted⟩)
    exact ⟨t, ht, frame_mono hframe fun _ hp => hfault (List.mem_cons_of_mem _ hp)⟩
  cases htag : s.duplicateTag i r.tag with
  | true =>
    obtain ⟨t, ht, -, -, hframe⟩ := hduplicate (.inr hd) hgranted ((duplicateTag_iff s i r.tag).mp htag)
    exact ⟨t, ht, frame_mono hframe fun _ hp => hfault hp⟩
  | false =>
    obtain ⟨hmalformed, hformed⟩ := hopen (.inr hd) hgranted htag
    cases hm : requestMalformed r with
    | true =>
      obtain ⟨t, ht, -, -, -, hframe⟩ := hmalformed ((requestMalformed_iff r).mp hm)
      exact ⟨t, ht, hframe⟩
    | false =>
      obtain ⟨t, ht, -, -, hframe⟩ := hformed hd hm
      exact ⟨t, ht, frame_mono hframe fun _ hp => List.cons_subset_cons _ (List.subset_append_right ..) hp⟩

/-! ### The drain completed first (R145, R148) -/

theorem state_completeDrain (s : State) (i : Initiator) : ((s.completeDrain i).port i).state = .fenced := by
  rw [port_completeDrain, if_pos rfl]

/-- The notice is taken once. -/
theorem takeZeroNotice_completeDrain (s : State) (i : Initiator) : (s.completeDrain i).takeZeroNotice i = s.completeDrain i :=
  takeZeroNotice_of_openPort (.inr (by simp [state_completeDrain]))

section
variable {s : State} {i : Initiator}

theorem linkReset_completeDrain (h : s.drainDue i = true) : (s.completeDrain i).linkReset i = s.linkReset i := by
  simp only [State.linkReset, takeZeroNotice_completeDrain, takeZeroNotice_of_due h]

theorem fencePort_completeDrain (h : s.drainDue i = true) : (s.completeDrain i).fencePort i = s.fencePort i := by
  simp only [State.fencePort, takeZeroNotice_completeDrain, takeZeroNotice_of_due h]

end

/-! ### The traffic reset abandons a drain (R48, R154) -/

theorem sentTo_resetPortTraffic (s : State) (i j : Initiator) :
    (s.resetPortTraffic i).sentTo j = if i = j ∧ (s.port j).state ≠ .disabled then s.sentTo j ++ [.linkReset] else s.sentTo j := by
  have hsent : (s.resetPortTraffic i).sentTo j = (if (s.port i).state = .disabled then s else s.send i .linkReset).sentTo j := rfl
  rw [hsent]
  by_cases hd : (s.port i).state = .disabled
  · rw [if_pos hd, if_neg]
    rintro ⟨rfl, hn⟩
    exact hn hd
  · rw [if_neg hd, sentTo_send]
    by_cases hij : i = j
    · subst hij
      rw [if_pos rfl, if_pos ⟨rfl, hd⟩]
    · rw [if_neg hij, if_neg fun h => hij h.1]

/-- Each port that is not DISABLED sends one LINK_RESET, on its own link (R154). -/
theorem sentTo_foldl_resetPortTraffic {l : List Initiator} (hl : l.Nodup) (s : State) (j : Initiator) :
    (l.foldl State.resetPortTraffic s).sentTo j =
      if j ∈ l ∧ (s.port j).state ≠ .disabled then s.sentTo j ++ [.linkReset] else s.sentTo j := by
  induction l generalizing s with
  | nil => simp
  | cons i l ih =>
    obtain ⟨hi, hl⟩ := List.nodup_cons.mp hl
    rw [List.foldl_cons, ih hl, sentTo_resetPortTraffic, port_resetPortTraffic]
    by_cases hij : i = j
    · subst hij
      simp [hi]
    · simp [hij, Ne.symm hij]

theorem interrupts_foldl_resetPortTraffic (l : List Initiator) (s : State) :
    (l.foldl State.resetPortTraffic s).interrupts = s.interrupts :=
  List.foldlRecOn (motive := fun t => t.interrupts = s.interrupts) l State.resetPortTraffic rfl fun t ht i _ => by
    refine Eq.trans ?_ ht
    unfold State.resetPortTraffic
    simp only
    split <;> rfl

/-- The target port's part of a traffic reset: nothing of the ports, and only its own flag (R120). -/
theorem resetTarget_ports (s : State) : s.resetTarget.ports = s.ports ∧ s.resetTarget.links.toInitiator = s.links.toInitiator ∧
    ∀ c, c ≠ .targetState → s.resetTarget.flag c = s.flag c := by
  unfold State.resetTarget
  simp only
  split
  · exact ⟨rfl, rfl, fun _ _ => rfl⟩
  · refine ⟨rfl, rfl, fun c hc => ?_⟩
    rw [flag_raise, decide_eq_false hc, Bool.or_false]
    rfl

/-- What a traffic reset leaves at the ports: each DISABLED and empty, its initiator told unless it was DISABLED, and no flag of a
port raised. -/
theorem trafficReset_ports (s : State) (i : Initiator) : s.trafficReset.port i = .reset ∧
    s.trafficReset.sentTo i = (if (s.port i).state ≠ .disabled then s.sentTo i ++ [.linkReset] else s.sentTo i) ∧
    ∀ c, c ≠ .targetState → s.trafficReset.flag c = s.flag c := by
  have hport := (foldl_resetPortTraffic initiators s i).2 (.inl (mem_initiators i))
  have hsent := sentTo_foldl_resetPortTraffic (List.nodup_finRange 4) s i
  have hflags := flag_of_interrupts (interrupts_foldl_resetPortTraffic initiators s)
  rw [show List.finRange 4 = initiators from rfl] at hsent
  simp only [mem_initiators, true_and] at hsent
  unfold State.trafficReset
  generalize initiators.foldl State.resetPortTraffic s = t at hport hsent hflags
  obtain ⟨hports, hlinks, hflag⟩ := resetTarget_ports t.clearTraffic
  refine ⟨(port_of_ports hports i).trans hport, ?_, fun c hc => (hflag c hc).trans (hflags c)⟩
  rw [← hsent, State.sentTo, hlinks]
  rfl

/-- A traffic reset finds a DRAINING port, and leaves it DISABLED with a LINK_RESET sent and no DRAIN_DONE. -/
theorem trafficReset_abandons {s : State} {p : Initiator} (hr : s.rstN = true) (hdraining : (s.port p).state = .draining) :
    ∃ t, exec .trafficReset s = .next t ∧ (t.port p).state = .disabled ∧ t.drainDue p = false ∧
      t.sentTo p = s.sentTo p ++ [.linkReset] ∧ t.flag (.drainDone p) = s.flag (.drainDone p) := by
  obtain ⟨hport, hsent, hflag⟩ := trafficReset_ports s p
  have hcommand : s.trafficReset.Frame s.commandTrafficReset Piece.ofCommand := complete_frame _ _ _
  have hnext := next_of_high hr State.commandTrafficReset
  generalize s.commandTrafficReset = t, s.trafficReset = w at *
  have hclosed : (t.port p).state = .disabled :=
    (portState_of_frame hcommand (by simp [KeepsDrain, Piece.ofCommand])).trans (by rw [hport]; rfl)
  have hlink : t.sentTo p = w.sentTo p := of_decide_eq_true (hcommand.2 (.link p) (by simp [Piece.ofCommand]))
  have hreported : t.flag (.drainDone p) = w.flag (.drainDone p) :=
    of_decide_eq_true (hcommand.2 (.flag (.drainDone p)) (by simp [Piece.ofCommand]))
  exact ⟨_, hnext, hclosed, by simp [State.drainDue, hclosed],
    hlink.trans (hsent.trans (if_pos (by simp [hdraining]))), hreported.trans (hflag _ (by simp))⟩

/-- Settles O8: what an event finds where a drain is due, the notice taken before it or after it. -/
theorem dueDrainComesFirst : Obligations.DueDrainComesFirst := by
  intro p s hr hdue
  have hdraining := (drainDue_iff.mp hdue).1
  have hnotice := next_of_high hr fun t => t.takeZeroNotice p
  rw [takeZeroNotice_of_due hdue] at hnotice
  have hfenced := state_completeDrain s p
  have hrefused : ∀ {c : Instr} {code : Word}, (∃ t, exec c s = .next t ∧ s.Completes t code .refusedState ∧ s.Frame t Piece.ofCommand) →
      ∃ t, exec c s = .next t ∧ t.management.status = .refusedState ∧ t.drainDue p = true := by
    rintro c code ⟨t, ht, ⟨-, hstatus, -⟩, hframe⟩
    exact ⟨t, ht, hstatus, (drainDue_of_frame hframe (by simp [KeepsDrain, Piece.ofCommand])).trans hdue⟩
  refine ⟨s.completeDrain p, hnotice, hfenced, by simp [State.drainDue, hfenced], ?_, fun hp => ?_, fun r => ⟨?_, ?_⟩, fun hp c hc => ?_, ?_⟩
  · calc exec (.linkReset p) s
      _ = .next (s.linkReset p) := next_of_high hr fun t => t.linkReset p
      _ = .next ((s.completeDrain p).linkReset p) := by rw [linkReset_completeDrain hdue]
      _ = exec (.linkReset p) (s.completeDrain p) := (next_of_high (s := s.completeDrain p) hr fun t => t.linkReset p).symm
  · have hfence := portCommand_next hr hp Config.codePortFence fun p t => t.fencePort p
    have hafter := portCommand_next (s := s.completeDrain p) hr hp Config.codePortFence fun p t => t.fencePort p
    rw [fencePort_completeDrain hdue] at hafter
    exact hfence.trans hafter.symm
  · obtain ⟨t, ht, hframe⟩ := request_at_draining r hr hdraining
    have hkeeps : KeepsDrain p (.link p :: (Piece.ofFault ++ Piece.ofReport)) := by simp [KeepsDrain, Piece.ofFault, Piece.ofReport]
    exact ⟨t, ht, (portState_of_frame hframe hkeeps).trans hdraining, (drainDue_of_frame hframe hkeeps).trans hdue⟩
  · obtain ⟨t, ht, hsent, -, hframe⟩ := (requestRefusedOnArrival p r (s.completeDrain p) hr).1 hfenced
    exact ⟨t, ht, (portState_of_frame hframe (by simp [KeepsDrain, Piece.ofReport])).trans hfenced, hsent⟩
  · simp only [List.mem_cons, List.not_mem_nil, or_false] at hc
    rcases hc with rfl | rfl
    · exact hrefused ((portEnableOpens p s hr hp).2 (.inr hdraining))
    · exact hrefused ((portDrainCloses p s hr hp).2 (by simp [hdraining]))
  · exact trafficReset_abandons hr hdraining

end Sys2Proof.Machine
end

section
/-!
One add (R162): the counter it reaches, the bank, COUNTER_OVF, and all that it leaves.
-/

namespace Sys2Proof.Machine

/-- The add of `n` to counter `c` passes 2^32 - 1 (R162). -/
def State.passes (s : State) (c : CounterIdx) (n : Nat) : Bool := 2 ^ 32 ≤ (s.counter c).value.toNat + n

/-- The two outcomes of an add: the sum fits, or it wraps and is reported and freezes as the control says. -/
theorem addTo_cases (s : State) (c : CounterIdx) (n : Nat) :
    (s.passes c n = false ∧
      s.addTo c n = s.modCounter c fun k => { k with value := BitVec.ofNat 32 ((s.counter c).value.toNat + n) }) ∨
    (s.passes c n = true ∧ ∃ t, t = s.modCounter c
        (fun k => { k with value := BitVec.ofNat 32 ((s.counter c).value.toNat + n), overflow := true }) ∧
      s.addTo c n =
        (let u := if (s.counter c).control.overflowInterrupt then t.raise .counterOvf else t
         if (s.counter c).control.freezeOnOverflow then u.setBank .frozen else u)) := by
  unfold State.addTo
  by_cases h : (s.counter c).value.toNat + n < 2 ^ 32
  · exact .inl ⟨decide_eq_false (by omega), if_pos h⟩
  · exact .inr ⟨decide_eq_true (by omega), _, rfl, if_neg h⟩

theorem counter_addTo (s : State) (c d : CounterIdx) (n : Nat) : (s.addTo c n).counter d =
    if c = d then { s.counter d with value := (s.counter d).value + BitVec.ofNat 32 n
                                     overflow := (s.counter d).overflow || s.passes d n }
    else s.counter d := by
  by_cases hcd : c = d
  · subst hcd
    have hsum : BitVec.ofNat 32 ((s.counter c).value.toNat + n) = (s.counter c).value + BitVec.ofNat 32 n := by
      rw [BitVec.ofNat_add, BitVec.ofNat_toNat, BitVec.setWidth_eq]
    rcases addTo_cases s c n with ⟨hp, h⟩ | ⟨hp, t, rfl, h⟩ <;> rw [if_pos rfl, h, hp]
    · rw [counter_modCounter, if_pos rfl, hsum, Bool.or_false]
    · simp only [Bool.or_true]
      split <;> split <;> simp [counter_modCounter, hsum]
  · rw [if_neg hcd, counter_addTo_of_ne s hcd]

theorem bank_addTo (s : State) (c : CounterIdx) (n : Nat) : (s.addTo c n).monitor.bank =
    if s.passes c n && (s.counter c).control.freezeOnOverflow then .frozen else s.monitor.bank := by
  rcases addTo_cases s c n with ⟨hp, h⟩ | ⟨hp, t, rfl, h⟩ <;> rw [h, hp]
  · rfl
  · cases (s.counter c).control.freezeOnOverflow <;> cases (s.counter c).control.overflowInterrupt <;> rfl

theorem counterOvf_addTo (s : State) (c : CounterIdx) (n : Nat) : (s.addTo c n).flag .counterOvf =
    (s.flag .counterOvf || (s.passes c n && (s.counter c).control.overflowInterrupt)) := by
  rcases addTo_cases s c n with ⟨hp, h⟩ | ⟨hp, t, rfl, h⟩ <;> rw [h, hp]
  · exact (Bool.or_false _).symm
  · have hraised := flag_raise (s.modCounter c fun k =>
      { k with value := BitVec.ofNat 32 ((s.counter c).value.toNat + n), overflow := true }) .counterOvf .counterOvf
    cases (s.counter c).control.freezeOnOverflow <;> cases (s.counter c).control.overflowInterrupt
    · exact (Bool.or_false _).symm
    · exact hraised
    · exact (Bool.or_false _).symm
    · exact hraised

/-- What the monitor's own events may change. -/
theorem OnlyMonitor.frame {s t : State} (h : OnlyMonitor s t) : s.Frame t (Piece.ofSample ++ initiators.map .bins) := by
  have hport := port_of_ports h.ports
  refine ⟨h.pending, fun p hp => ?_⟩
  simp only [Piece.ofSample, Piece.ofReport, List.mem_cons, List.mem_append, List.mem_map, not_or, not_exists, not_and] at hp
  obtain ⟨⟨⟨⟨hvalue, hoverflow⟩, hbank, hovf, -⟩, hedge⟩, hbins⟩ := hp
  cases p with
  | counterValue c => exact absurd rfl (hvalue c (List.mem_finRange c))
  | overflow c => exact absurd rfl (hoverflow c (List.mem_finRange c))
  | edgeMemory c => exact absurd rfl (hedge c (List.mem_finRange c))
  | bank => exact absurd rfl hbank
  | bins i => exact absurd rfl (hbins i (mem_initiators i))
  | flag c => exact decide_eq_true (h.flag c fun hc => hovf (by rw [hc]))
  | counterControl c => exact decide_eq_true (h.control c)
  | readHolding c => exact decide_eq_true (h.readHolding c)
  | writeHolding c => exact decide_eq_true (h.writeHolding c)
  | edges => exact decide_eq_true h.edges
  | histogramIndex => exact decide_eq_true (by rw [h.management]; exact ⟨rfl, rfl⟩)
  | _ =>
    refine decide_eq_true ?_
    simp only [State.entry, State.port, State.head, State.profile, State.remaining, State.staged, State.sentTo, h.tracker, h.ports, h.admission,
      h.windows, h.regulation, h.target, h.timebase, h.faultLog, h.enables, h.management, h.links, h.rstN, h.sampleOwed]

/-- What an add may change (R162). -/
theorem addTo_frame (s : State) (c : CounterIdx) (n : Nat) :
    s.Frame (s.addTo c n) [.counterValue c, .overflow c, .bank, .flag .counterOvf] := by
  refine frame_narrow (addTo_onlyMonitor s c n).frame fun p hp hn => ?_
  simp only [Piece.ofSample, Piece.ofReport, List.mem_cons, List.mem_append, List.mem_map, List.not_mem_nil, or_false] at hp
  simp only [List.mem_cons, List.not_mem_nil, or_false, not_or] at hn
  obtain ⟨hvalue, hoverflow, hbank, hovf⟩ := hn
  rcases hp with (((⟨d, -, rfl⟩ | ⟨d, -, rfl⟩) | rfl | rfl) | ⟨d, -, rfl⟩) | ⟨i, -, rfl⟩
  · exact decide_eq_true (by rw [counter_addTo_of_ne s fun hcd => hvalue (by rw [hcd])])
  · exact decide_eq_true (by rw [counter_addTo_of_ne s fun hcd => hoverflow (by rw [hcd])])
  · exact absurd rfl hbank
  · exact absurd rfl hovf
  · exact decide_eq_true (addTo_edgeMemory s c d n)
  · exact decide_eq_true (by rw [addTo_bins])

end Sys2Proof.Machine
end

section
/-!
The adds of one report or one tick, in whatever order they are taken: what lands before a freeze, and what is dropped after it (R163, R164).
-/

namespace Sys2Proof.Machine

/-! ### The orders a number stands for -/

theorem arrange_perm {α : Type} (l : List α) : ∀ n, (arrange n l).Perm l := by
  induction l with
  | nil => exact fun _ => .nil
  | cons a l ih =>
    intro n
    refine List.perm_middle.trans (.cons a ?_)
    rw [List.take_append_drop]
    exact ih _

/-- Every arrangement of a list is some number's: the place of the first element is its last digit. -/
theorem exists_arrange_eq {α : Type} (l : List α) : ∀ l', l'.Perm l → ∃ n, arrange n l = l' := by
  induction l with
  | nil => exact fun l' h => ⟨0, h.eq_nil.symm⟩
  | cons a l ih =>
    intro l' h
    obtain ⟨front, back, rfl⟩ := List.append_of_mem (h.mem_iff.mpr List.mem_cons_self)
    have hrest : (front ++ back).Perm l := (List.perm_middle.symm.trans h).cons_inv
    obtain ⟨m, hm⟩ := ih _ hrest
    have hplace : front.length < l.length + 1 := by
      have := hrest.length_eq
      rw [List.length_append] at this
      omega
    have hdigit : (m * (l.length + 1) + front.length) % (l.length + 1) = front.length := by
      rw [Nat.mul_add_mod_self_right, Nat.mod_eq_of_lt hplace]
    have hothers : (m * (l.length + 1) + front.length) / (l.length + 1) = m := by
      rw [Nat.mul_comm, Nat.mul_add_div (Nat.succ_pos _), Nat.div_eq_of_lt hplace, Nat.add_zero]
    refine ⟨m * (l.length + 1) + front.length, ?_⟩
    simp only [arrange, hdigit, hothers, hm]
    simp

/-- The items of one report or one tick are taken one after another, in some order of them all (R164, log entry 1). -/
theorem inAnyOrder_order (s : State) (f : Option CounterIdx → State → State) :
    ∃ (order : List (Option CounterIdx)) (n : Nat), order.Perm monitorItems ∧
      s.inAnyOrder f = order.foldl (fun t k => f k t) { s with choices := n } := by
  unfold State.inAnyOrder
  split
  · exact ⟨_, _, arrange_perm _ _, rfl⟩
  · exact ⟨_, s.choices, .refl _, rfl⟩

/-! ### What lands -/

/-- Item `k` of an order lands: nothing before it freezes the bank. -/
def landsIn (freezes : Option CounterIdx → Bool) (l : List (Option CounterIdx)) (k : Option CounterIdx) : Bool :=
  decide (k ∈ l) && !((l.takeWhile (· ≠ k)).any freezes)

theorem landsIn_of_mem {freezes : Option CounterIdx → Bool} {l : List (Option CounterIdx)} {k : Option CounterIdx} (h : k ∈ l) :
    landsIn freezes l k = !((l.takeWhile (· ≠ k)).any freezes) := by
  rw [landsIn, decide_eq_true h, Bool.true_and]

theorem landsIn_of_not_mem {freezes : Option CounterIdx → Bool} {l : List (Option CounterIdx)} {k : Option CounterIdx} (h : k ∉ l) :
    landsIn freezes l k = false := by
  rw [landsIn, decide_eq_false h, Bool.false_and]

/-- One more item lands where none before it freezes, and leaves what landed before it. -/
theorem landsIn_concat {freezes : Option CounterIdx → Bool} {l : List (Option CounterIdx)} {k : Option CounterIdx} (hk : k ∉ l)
    (j : Option CounterIdx) : landsIn freezes (l ++ [k]) j = (landsIn freezes l j || (decide (k = j) && !l.any freezes)) := by
  by_cases hj : j ∈ l
  · have hkj : k ≠ j := fun h => hk (h ▸ hj)
    have hstop : (l ++ [k]).takeWhile (· ≠ j) = l.takeWhile (· ≠ j) := by
      obtain ⟨front, back, rfl⟩ := List.append_of_mem hj
      simp [List.takeWhile_append]
    rw [landsIn_of_mem (List.mem_append_left _ hj), landsIn_of_mem hj, hstop, decide_eq_false hkj, Bool.false_and, Bool.or_false]
  · rw [landsIn_of_not_mem hj, Bool.false_or]
    by_cases hkj : k = j
    · subst hkj
      have hall : (l ++ [k]).takeWhile (· ≠ k) = l := by
        rw [List.takeWhile_append_of_pos fun x hx => decide_eq_true (ne_of_mem_of_not_mem hx hk)]
        simp
      rw [landsIn_of_mem (by simp), hall, decide_eq_true rfl, Bool.true_and]
    · rw [landsIn_of_not_mem (by simp [hj, Ne.symm hkj]), decide_eq_false hkj, Bool.false_and]

/-! ### The items one after another -/

/-- The adds of one report or one tick: what each counter adds, its EDGE memory then, and the latency to bin. -/
structure Adds where
  amount : CounterIdx → Nat
  memory : CounterIdx → EdgeMemory
  latency : Option (Initiator × Tick)

namespace Adds

/-- The item freezes the bank where it lands (R162, R163). -/
def freezes (a : Adds) (s : State) (k : Option CounterIdx) : Bool :=
  k.any fun c => s.passes c (a.amount c) && (s.counter c).control.freezeOnOverflow

/-- The item reports COUNTER_OVF where it lands (R162). -/
def signals (a : Adds) (s : State) (c : CounterIdx) : Bool := s.passes c (a.amount c) && (s.counter c).control.overflowInterrupt

/-- Counter `c` with its add. -/
def landed (a : Adds) (s : State) (c : CounterIdx) : Counter :=
  { s.counter c with value := (s.counter c).value + BitVec.ofNat 32 (a.amount c)
                     overflow := (s.counter c).overflow || s.passes c (a.amount c), edgeMemory := a.memory c }

/-- The latency falls in bin `j` of initiator `i` (R169). -/
def bins (a : Adds) (s : State) (i : Initiator) (j : Fin 8) : Bool :=
  a.latency.any fun p => p.1 = i && j.val = binOf s.monitor.edges p.2.toNat

end Adds

/-- Item `k` is taken on the way from `t` to `u`, in a RUNNING bank. -/
structure TakesItem (s : State) (a : Adds) (t u : State) (k : Option CounterIdx) : Prop where
  bank : u.monitor.bank = if a.freezes s k then .frozen else .running
  counter : ∀ c, u.counter c = if k = some c then a.landed s c else t.counter c
  counterOvf : u.flag .counterOvf = (t.flag .counterOvf || k.any (a.signals s))
  bins : ∀ (i : Initiator) (j : Fin 8), u.monitor.bins[i][j] =
    if k = none ∧ a.bins s i j = true then min 65535 (s.monitor.bins[i][j] + 1) else t.monitor.bins[i][j]

/-- The items of an event make the adds `a`, each its own where it finds its counter, or the bins, as `s` holds them. -/
structure MakesAdds (s : State) (a : Adds) (f : Option CounterIdx → State → State) : Prop where
  only : ∀ k t, OnlyMonitor t (f k t)
  frozen : ∀ k t, t.monitor.bank = .frozen → f k t = t
  counter : ∀ c t, OnlyMonitor s t → t.monitor.bank = .running → t.counter c = s.counter c → TakesItem s a t (f (some c) t) (some c)
  bins : ∀ t, OnlyMonitor s t → t.monitor.bank = .running → t.monitor.bins = s.monitor.bins → TakesItem s a t (f none t) none

/-- The items of `l` have been taken from `s` to `t`, in this order. -/
structure TookItems (s : State) (a : Adds) (l : List (Option CounterIdx)) (t : State) : Prop where
  only : OnlyMonitor s t
  bank : t.monitor.bank = if l.any (a.freezes s) then .frozen else .running
  counter : ∀ c, t.counter c = if landsIn (a.freezes s) l (some c) then a.landed s c else s.counter c
  counterOvf : t.flag .counterOvf =
    (s.flag .counterOvf || (List.finRange 6).any fun c => landsIn (a.freezes s) l (some c) && a.signals s c)
  bins : ∀ (i : Initiator) (j : Fin 8), t.monitor.bins[i][j] =
    if landsIn (a.freezes s) l none && a.bins s i j then min 65535 (s.monitor.bins[i][j] + 1) else s.monitor.bins[i][j]

section
variable {s : State} {a : Adds} {f : Option CounterIdx → State → State}

/-- An item not taken before finds its counter, or the bins, as the event found them. -/
theorem TookItems.takesItem {l : List (Option CounterIdx)} {t : State} (hf : MakesAdds s a f) (h : TookItems s a l t)
    {k : Option CounterIdx} (hk : k ∉ l) (hb : t.monitor.bank = .running) : TakesItem s a t (f k t) k := by
  cases k with
  | some c =>
    refine hf.counter c t h.only hb ?_
    rw [h.counter, landsIn_of_not_mem hk]
    rfl
  | none =>
    refine hf.bins t h.only hb (vector_ext_fin fun i => vector_ext_fin fun j => ?_)
    rw [h.bins, landsIn_of_not_mem hk]
    rfl

theorem TookItems.concat {l : List (Option CounterIdx)} {t : State} (hf : MakesAdds s a f) (h : TookItems s a l t)
    {k : Option CounterIdx} (hk : k ∉ l) : TookItems s a (l ++ [k]) (f k t) := by
  have hland : ∀ j, landsIn (a.freezes s) (l ++ [k]) j = _ := landsIn_concat hk
  cases hfrozen : l.any (a.freezes s) with
  | true =>
    have hb : t.monitor.bank = .frozen := by rw [h.bank, hfrozen]; rfl
    have hsame : ∀ j, landsIn (a.freezes s) (l ++ [k]) j = landsIn (a.freezes s) l j := fun j => by simp [hland, hfrozen]
    rw [hf.frozen k t hb]
    exact
      { only := h.only
        bank := by rw [hb, List.any_append, hfrozen]; rfl
        counter := by simpa only [hsame] using h.counter
        counterOvf := by simpa only [hsame] using h.counterOvf
        bins := by simpa only [hsame] using h.bins }
  | false =>
    have hmore : ∀ j, landsIn (a.freezes s) (l ++ [k]) j = (landsIn (a.freezes s) l j || decide (k = j)) := fun j => by
      simp [hland, hfrozen]
    have hitem := h.takesItem hf hk (by rw [h.bank, hfrozen]; rfl)
    refine ⟨h.only.trans (hf.only k t), ?_, fun c => ?_, ?_, fun i j => ?_⟩
    · rw [hitem.bank, List.any_append, hfrozen]
      simp
    · rw [hitem.counter, h.counter, hmore]
      by_cases hkc : k = some c <;> simp [hkc]
    · rw [hitem.counterOvf, h.counterOvf, Bool.or_assoc]
      congr 1
      rw [Bool.eq_iff_iff]
      cases k <;> simp [hmore, or_and_right, exists_or]
    · rw [hitem.bins, h.bins, hmore]
      by_cases hkn : k = none
      · subst hkn
        simp [landsIn_of_not_mem hk]
      · simp [hkn]

theorem foldl_tookItems (hf : MakesAdds s a f) (l : List (Option CounterIdx)) :
    ∀ done t, (done ++ l).Nodup → TookItems s a done t → TookItems s a (done ++ l) (l.foldl (fun t k => f k t) t) := by
  induction l with
  | nil => exact fun done t _ h => by simpa using h
  | cons k l ih =>
    intro done t hn h
    have hk : k ∉ done := fun hd => (List.nodup_append.mp hn).2.2 k hd k List.mem_cons_self rfl
    rw [List.append_cons] at hn ⊢
    exact ih _ _ hn (h.concat hf hk)

/-- The items taken in an order of them all, in the words of the statement. -/
theorem TookItems.addsInSomeOrder {order : List (Option CounterIdx)} {t : State} (h : TookItems s a order t)
    (hperm : order.Perm monitorItems) : s.AddsInSomeOrder t a.amount a.memory a.latency := by
  have hlands : ∀ k, landsIn (a.freezes s) order k = !((order.takeWhile (· ≠ k)).any (a.freezes s)) := fun k =>
    landsIn_of_mem (hperm.mem_iff.mpr (by cases k <;> simp [monitorItems]))
  have hany : order.any (a.freezes s) = (List.finRange 6).any fun c => a.freezes s (some c) := by
    rw [hperm.any_eq, monitorItems, List.any_append, List.any_map]
    exact Bool.or_false _
  obtain ⟨honly, hbank, hcounter, hovf, hbins⟩ := h
  rw [hany] at hbank
  simp only [hlands, Adds.signals, ← Bool.and_assoc] at hcounter hovf hbins
  exact ⟨honly.frame, hbank, order, hperm, hcounter, hovf, hbins⟩

/-- Events that make the adds `a` in a RUNNING bank make them in some order (R164). -/
theorem inAnyOrder_addsInSomeOrder (hb : s.monitor.bank = .running) (hf : MakesAdds s a f) :
    s.AddsInSomeOrder (s.inAnyOrder f) a.amount a.memory a.latency := by
  obtain ⟨order, n, hperm, heq⟩ := inAnyOrder_order s f
  have hnone : ∀ k, landsIn (a.freezes s) [] k = false := fun k => landsIn_of_not_mem List.not_mem_nil
  have hstart : TookItems s a [] { s with choices := n } :=
    { only := choose_onlyMonitor s n
      bank := hb
      counter := fun c => by rw [hnone]; rfl
      counterOvf := by simp only [hnone, Bool.false_and, List.any_eq_false.mpr fun _ _ => Bool.false_ne_true, Bool.or_false]; rfl
      bins := fun i j => by rw [hnone]; rfl }
  rw [heq]
  exact (foldl_tookItems hf order [] _ (hperm.nodup_iff.mpr (by decide)) hstart).addsInSomeOrder hperm

/-- In a FROZEN bank no add is taken, and no order of them is asked for (R163, log entry 1). -/
theorem inAnyOrder_of_frozen (hb : s.monitor.bank = .frozen) (hf : ∀ k, f k s = s) : s.inAnyOrder f = s := by
  have hcalm : s.monitor.mayFreeze = false := (mayFreeze_eq_false_iff s).mpr fun hrun => by rw [hb] at hrun; cases hrun
  rw [inAnyOrder_of_calm s f hcalm]
  exact List.foldlRecOn (motive := fun t => t = s) monitorItems _ rfl fun t ht k _ => by rw [ht, hf]

end

end Sys2Proof.Machine
end

section
/-!
The monitor's reports and samples while the bank may freeze (R157 to R164, R169), and O52.
-/

namespace Sys2Proof.Machine

/-! ### What a control counts (R156, R158, R159) -/

theorem ofCode_event_iff (c : BitVec 4) (e : Event) : Event.ofCode c = some e ↔ c.toNat =
    [Event.admitted, .beatsAdmitted, .refused, .completed, .timedOut, .late, .depWait, .issue, .headWait, .trackerUse,
      .ingressUse, .creditEmpty, .ticks].idxOf e := by
  revert c
  cases e <;> decide

theorem ofCode_mode_iff (c : BitVec 3) (m : CountMode) :
    CountMode.ofCode c = some m ↔ c.toNat = [CountMode.count, .threshold, .edge, .accumulate].idxOf m := by
  revert c
  cases m <;> decide

theorem exists_ofCode_mode_iff : ∀ c : BitVec 3, (∃ m, CountMode.ofCode c = some m) ↔ c.toNat ≤ 3 := by
  simp only [← Option.isSome_iff_exists]
  decide

/-- A control counts the event and in the mode that its codes name, enabled and with a qualifier of that event (R156). -/
theorem counting_eq_some_iff (k : Control) (e : Event) (m : CountMode) : k.counting = some (e, m) ↔
    k.enable = true ∧ Event.ofCode k.event = some e ∧ CountMode.ofCode k.mode = some m ∧ e.acceptsQualifier k.qualifier = true := by
  unfold Control.counting
  cases he : Event.ofCode k.event with
  | none => simp
  | some e' =>
    cases hm : CountMode.ofCode k.mode with
    | none => simp
    | some m' =>
      simp only [Option.ite_none_right_eq_some, Bool.and_eq_true, Option.some.injEq, Prod.mk.injEq]
      constructor
      · rintro ⟨⟨hen, hq⟩, rfl, rfl⟩
        exact ⟨hen, rfl, rfl, hq⟩
      · rintro ⟨hen, rfl, rfl, hq⟩
        exact ⟨⟨hen, hq⟩, rfl, rfl⟩

/-- A control takes the reports of the event it counts, of its initiators and of its qualifier (R157). -/
theorem takes_iff (k : Control) (r : Report) : k.takes r = true ↔
    (∃ m, k.counting = some (r.event, m)) ∧ k.masks r.initiator = true ∧
      (k.qualifier = 0 ∨ r.event.qualifiers = none ∨ k.qualifier.toNat = r.qualifier) := by
  unfold Control.takes
  cases hc : k.counting with
  | none => simp
  | some p =>
    obtain ⟨e, m⟩ := p
    simp only [Bool.and_eq_true, Bool.or_eq_true, beq_iff_eq, Option.some.injEq, Prod.mk.injEq, and_assoc, or_assoc]
    constructor
    · rintro ⟨rfl, hmask, hq⟩
      exact ⟨⟨m, rfl, rfl⟩, hmask, hq⟩
    · rintro ⟨⟨-, rfl, -⟩, hmask, hq⟩
      exact ⟨rfl, hmask, hq⟩

/-- What a control takes, by its codes. -/
theorem takes_iff_codes (k : Control) (r : Report) : k.takes r = true ↔
    k.enable = true ∧ k.mode.toNat ≤ 3 ∧ k.masks r.initiator = true ∧ Event.ofCode k.event = some r.event ∧
      r.event.acceptsQualifier k.qualifier = true ∧
      (k.qualifier = 0 ∨ r.event.qualifiers = none ∨ k.qualifier.toNat = r.qualifier) := by
  rw [takes_iff, ← exists_ofCode_mode_iff]
  simp only [counting_eq_some_iff]
  constructor
  · rintro ⟨⟨m, hen, he, hm, ha⟩, hmask, hq⟩
    exact ⟨hen, ⟨m, hm⟩, hmask, he, ha, hq⟩
  · rintro ⟨hen, ⟨m, hm⟩, hmask, he, ha, hq⟩
    exact ⟨⟨m, hen, he, hm, ha⟩, hmask, hq⟩

/-- A control takes reports of one event alone. -/
theorem event_eq_of_takes {k : Control} {r r' : Report} (h : k.takes r = true) (h' : k.takes r' = true) : r.event = r'.event := by
  obtain ⟨⟨m, hc⟩, -⟩ := (takes_iff k r).mp h
  obtain ⟨⟨m', hc'⟩, -⟩ := (takes_iff k r').mp h'
  exact congrArg Prod.fst (Option.some.inj (hc.symm.trans hc'))

/-! ### What a sample reads (R159) -/

/-- The initiators in the control's mask, in ascending order. -/
def Control.masked (k : Control) : List Initiator := initiators.filter fun i => k.mask.getLsbD i

theorem masked_contains (k : Control) (i : Initiator) : k.masked.contains i = k.masks i := by
  rw [Bool.eq_iff_iff]
  simp [Control.masked, Control.masks, mem_initiators]

theorem waiting_admittedBy : ∀ q : BitVec 3,
    (HeadStatus.waiting .budget).admittedBy q = (q.toNat == 0 || q.toNat == 1) ∧
    (HeadStatus.waiting .quota).admittedBy q = (q.toNat == 0 || q.toNat == 2) ∧
    (HeadStatus.waiting .target).admittedBy q = (q.toNat == 0 || q.toNat == 3) ∧
    (HeadStatus.waiting .halt).admittedBy q = (q.toNat == 0 || q.toNat == 4) := by decide

theorem phase_admittedBy : ∀ q : BitVec 3,
    Phase.issued.admittedBy q = (q.toNat == 0 || q.toNat == 1) ∧ Phase.waiting.admittedBy q = (q.toNat == 0) ∧
    Phase.ready.admittedBy q = (q.toNat == 0) := by decide

theorem detached_admittedBy (c : DetachCause) : ∀ q : BitVec 3, (Phase.detached c).admittedBy q = (q.toNat == 0 || q.toNat == 2) := by
  cases c <;> decide

/-- HEAD_WAIT counts the masked initiators whose head the qualifier admits, in whatever words `p` says which. -/
theorem sampleValue_headWait (s : State) (k : Control) {p : Initiator → Bool} (hp : ∀ i, (s.head i).admittedBy k.qualifier = p i) :
    s.sampleValue k .headWait = (k.masked.filter p).length := by
  rw [State.sampleValue, List.countP_eq_length_filter, Control.masked, List.filter_filter]
  simp only [hp, Control.masks, Bool.and_comm]

/-- TRACKER_USE counts the entries of masked initiators whose state the qualifier admits. -/
theorem sampleValue_trackerUse (s : State) (k : Control) {p : EntryIdx → Bool}
    (hp : ∀ x, ((s.entry x).any fun e => k.masks e.initiator && e.phase.admittedBy k.qualifier) = p x) :
    s.sampleValue k .trackerUse = (entryIndices.filter p).length := by
  rw [State.sampleValue, State.countEntries, List.countP_eq_length_filter]
  simp only [hp]

/-- INGRESS_USE sums the queue lengths of the masked initiators. -/
theorem sampleValue_ingressUse (s : State) (k : Control) : s.sampleValue k .ingressUse =
    (k.masked.map fun i => (s.port i).queue.length).sum := by
  rw [State.sampleValue, List.sum_map_ite]
  simp [Control.masked, Control.masks]

/-! ### Items of an event -/

section
variable {s t u : State} {a : Adds} {c : CounterIdx}

/-- The counter adds its amount, its EDGE memory set just before in `u` (R161, R162). -/
theorem addTo_takesItem (hb : t.monitor.bank = .running) (hbank : u.monitor.bank = t.monitor.bank)
    (hcounter : ∀ d, u.counter d = if c = d then { s.counter d with edgeMemory := a.memory d } else t.counter d)
    (hovf : u.flag .counterOvf = t.flag .counterOvf) (hbins : u.monitor.bins = t.monitor.bins) :
    TakesItem s a t (u.addTo c (a.amount c)) (some c) := by
  have hpass : u.passes c (a.amount c) = s.passes c (a.amount c) := by rw [State.passes, hcounter, if_pos rfl]; rfl
  have hcontrol : (u.counter c).control = (s.counter c).control := by rw [hcounter, if_pos rfl]
  refine ⟨?_, fun d => ?_, ?_, fun i j => ?_⟩
  · rw [bank_addTo, hpass, hcontrol, hbank, hb]
    rfl
  · rw [counter_addTo, hcounter]
    by_cases hcd : c = d
    · subst hcd
      rw [if_pos rfl, if_pos rfl, if_pos rfl, hpass]
      rfl
    · rw [if_neg hcd, if_neg hcd, if_neg fun h => hcd (Option.some.inj h)]
  · rw [counterOvf_addTo, hpass, hcontrol, hovf]
    rfl
  · rw [addTo_bins, hbins, if_neg fun h => Option.some_ne_none c h.1]

/-- A counter that adds nothing is left. -/
theorem stays_takesItem (hb : t.monitor.bank = .running) (hcounter : t.counter c = s.counter c) (hamount : a.amount c = 0)
    (hmemory : a.memory c = (s.counter c).edgeMemory) : TakesItem s a t t (some c) := by
  have hpass : s.passes c 0 = false := decide_eq_false (Nat.not_le.mpr (s.counter c).value.isLt)
  have hlanded : a.landed s c = s.counter c := by
    rw [Adds.landed, hamount, hmemory, hpass, Bool.or_false]
    simp
  refine ⟨?_, fun d => ?_, ?_, fun i j => (if_neg fun h => Option.some_ne_none c h.1).symm⟩
  · simp [Adds.freezes, hamount, hpass, hb]
  · by_cases hcd : c = d
    · subst hcd
      rw [if_pos rfl, hlanded, hcounter]
    · rw [if_neg fun h => hcd (Option.some.inj h)]
  · simp [Adds.signals, hamount, hpass]

/-- Without a latency the bins are left. -/
theorem noLatency_takesItem (hb : t.monitor.bank = .running) (ha : a.latency = none) : TakesItem s a t t none := by
  refine ⟨hb, fun c => (if_neg (Option.some_ne_none c).symm).symm, (Bool.or_false _).symm, fun i j => ?_⟩
  simp [Adds.bins, ha]

/-- The latency falls in its bin (R169). -/
theorem binLatency_takesItem (ht : OnlyMonitor s t) (hb : t.monitor.bank = .running) (hbins : t.monitor.bins = s.monitor.bins)
    {i : Initiator} {n : Tick} (ha : a.latency = some (i, n)) : TakesItem s a t (t.binLatency i n) none := by
  have hkeep : (t.binLatency i n).monitor.bank = t.monitor.bank ∧ (∀ c, (t.binLatency i n).counter c = t.counter c) ∧
      (t.binLatency i n).flag .counterOvf = t.flag .counterOvf := by
    unfold State.binLatency
    split
    · exact ⟨rfl, fun _ => rfl, rfl⟩
    · exact ⟨rfl, fun _ => rfl, rfl⟩
  obtain ⟨hbank, hcounter, hovf⟩ := hkeep
  refine ⟨hbank.trans hb, fun c => (hcounter c).trans (if_neg (Option.some_ne_none c).symm).symm,
    hovf.trans (Bool.or_false _).symm, fun j k => ?_⟩
  rw [bins_binLatency, hb, ht.edges, hbins]
  simp [Adds.bins, ha]

end

/-! ### A report (R157) -/

theorem foldl_offer_of_none_taken {c : CounterIdx} {t : State} (rs : List Report)
    (h : ∀ r ∈ rs, (t.counter c).control.takes r = false) : rs.foldl (fun t r => t.offer c r) t = t :=
  List.foldlRecOn (motive := fun u => u = t) rs _ rfl fun u hu r hr => by
    rw [hu, offer_of_not_taken t c r (.inr (h r hr))]

/-- Of reports of different events a counter takes one at most. -/
theorem foldl_offer_of_distinct {c : CounterIdx} {t : State} (hb : t.monitor.bank = .running) {rs : List Report}
    (hrs : rs.Pairwise fun a b => a.event ≠ b.event) :
    (rs.filter (t.counter c).control.takes = [] ∧ rs.foldl (fun t r => t.offer c r) t = t) ∨
      ∃ r, rs.filter (t.counter c).control.takes = [r] ∧ rs.foldl (fun t r => t.offer c r) t = t.addTo c r.amount := by
  induction rs with
  | nil => exact .inl ⟨rfl, rfl⟩
  | cons r rs ih =>
    obtain ⟨hr, hrs⟩ := List.pairwise_cons.mp hrs
    cases ht : (t.counter c).control.takes r with
    | false =>
      rw [List.filter_cons_of_neg (by simp [ht]), List.foldl_cons, offer_of_not_taken t c r (.inr ht)]
      exact ih hrs
    | true =>
      have hnone : ∀ r' ∈ rs, (t.counter c).control.takes r' = false := fun r' hr' =>
        Bool.eq_false_iff.mpr fun ht' => hr r' hr' (event_eq_of_takes ht ht')
      have hoffer : t.offer c r = t.addTo c r.amount := by simp [State.offer, hb, ht]
      refine .inr ⟨r, ?_, ?_⟩
      · rw [List.filter_cons_of_pos ht, List.filter_eq_nil_iff.mpr fun r' hr' => by simp [hnone r' hr']]
      · rw [List.foldl_cons, hoffer, foldl_offer_of_none_taken]
        rwa [(addTo_onlyMonitor t c r.amount).control]

/-- One item of a report: the offers to a counter, or the binning of its latency. -/
def reportItem (rs : List Report) (latency : Option (Initiator × Tick)) (k : Option CounterIdx) (t : State) : State :=
  match k with
  | some c => rs.foldl (fun t r => t.offer c r) t
  | none =>
    match latency with
    | some (i, n) => t.binLatency i n
    | none => t

theorem report_eq (s : State) (rs : List Report) (latency : Option (Initiator × Tick)) :
    s.report rs latency = s.inAnyOrder (reportItem rs latency) := rfl

theorem reportItem_onlyMonitor (rs : List Report) (latency : Option (Initiator × Tick)) (k : Option CounterIdx) (t : State) :
    OnlyMonitor t (reportItem rs latency k t) := by
  cases k with
  | some c => exact OnlyMonitor.foldl _ (fun t r => offer_onlyMonitor t c r) rs t
  | none =>
    cases latency with
    | some p => exact binLatency_onlyMonitor t p.1 p.2
    | none => exact .refl t

theorem reportItem_of_frozen (rs : List Report) (latency : Option (Initiator × Tick)) (k : Option CounterIdx) {t : State}
    (hb : t.monitor.bank = .frozen) : reportItem rs latency k t = t := by
  cases k with
  | some c =>
    exact List.foldlRecOn (motive := fun u => u = t) rs _ rfl fun u hu r _ => by rw [hu, offer_of_not_taken t c r (.inl hb)]
  | none =>
    cases latency with
    | some p => simp [reportItem, State.binLatency, hb]
    | none => rfl

/-- The adds of a report: each counter what it takes of it, and the latency (R157, R169). -/
def State.reportAdds (s : State) (rs : List Report) (latency : Option (Initiator × Tick)) : Adds where
  amount c := ((rs.filter (s.counter c).control.takes).map Report.amount).sum
  memory c := (s.counter c).edgeMemory
  latency := latency

theorem report_makesAdds (s : State) {rs : List Report} (latency : Option (Initiator × Tick))
    (hrs : rs.Pairwise fun a b => a.event ≠ b.event) : MakesAdds s (s.reportAdds rs latency) (reportItem rs latency) where
  only := reportItem_onlyMonitor rs latency
  frozen k _ hb := reportItem_of_frozen rs latency k hb
  counter c t _ hb hc := by
    rcases foldl_offer_of_distinct (c := c) hb hrs with ⟨htaken, hfold⟩ | ⟨r, htaken, hfold⟩ <;> rw [reportItem, hfold] <;> rw [hc] at htaken
    · exact stays_takesItem hb hc (by simp only [State.reportAdds, htaken]; rfl) rfl
    · have hamount : (s.reportAdds rs latency).amount c = r.amount := by
        simp [State.reportAdds, htaken]
      rw [← hamount]
      refine addTo_takesItem hb rfl (fun d => ?_) rfl rfl
      split
      · rename_i hcd
        subst hcd
        exact hc
      · rfl
  bins t ht hb hbins := by
    cases latency with
    | some p => exact binLatency_takesItem ht hb hbins rfl
    | none => exact noLatency_takesItem hb rfl

/-! ### The samples of a tick (R161) -/

/-- The adds of a tick: each counter that samples adds its gain, in EDGE mode with the comparison as its memory, and no other does. -/
structure State.SamplesAs (s : State) (a : Adds) : Prop where
  idle : ∀ c, s.idles c → a.amount c = 0 ∧ a.memory c = (s.counter c).edgeMemory
  gain : ∀ c e m, (s.counter c).control.counting = some (e, m) → e.sampled = true → a.amount c = s.sampleGain c e m
  memory : ∀ c e m, (s.counter c).control.counting = some (e, m) → e.sampled = true → a.memory c =
    if m = .edge then
      if (s.counter c).control.threshold.toNat ≤ s.sampleValue (s.counter c).control e then .atOrAbove else .below
    else (s.counter c).edgeMemory
  latency : a.latency = none

theorem remember_keeps (s : State) (c : CounterIdx) (m : CountMode) (v : Nat) :
    (s.remember c m v).flag .counterOvf = s.flag .counterOvf ∧ (s.remember c m v).monitor.bins = s.monitor.bins := by
  unfold State.remember
  split
  · exact ⟨rfl, rfl⟩
  · exact ⟨rfl, rfl⟩

theorem sample_makesAdds {s : State} {a : Adds} (hs : s.monitor.bank = .running) (ha : s.SamplesAs a) :
    MakesAdds s a fun k t => sampleItem t k where
  only k t := sampleItem_onlyMonitor t k
  frozen k t hb := by
    cases k with
    | some c => exact sample_of_idles (.inl hb)
    | none => rfl
  counter c t ht hb hc := by
    rcases sample_cases t c with hidle | ⟨-, e, m, hcount, he⟩
    · have hidles : s.idles c := by rwa [State.idles, hb, hc, ← hs] at hidle
      obtain ⟨hamount, hmemory⟩ := ha.idle c hidles
      rw [sampleItem, sample_of_idles hidle]
      exact stays_takesItem hb hc hamount hmemory
    · have hcount' := hc ▸ hcount
      have hvalue := sampleValue_of_onlyMonitor ht
      have hgain : t.sampleGain c e m = a.amount c := by
        rw [ha.gain c e m hcount' he, State.sampleGain, State.sampleGain, hc, hvalue]
      obtain ⟨hovf, hbins⟩ := remember_keeps t c m (t.sampleValue (t.counter c).control e)
      rw [sampleItem, sample_of_counting hb hcount he, hgain]
      refine addTo_takesItem hb (remember_tallies t c m _).bank (fun d => ?_) hovf hbins
      rw [counter_remember]
      by_cases hcd : c = d
      · subst hcd
        rw [if_pos rfl, ha.memory c e m hcount' he, hc, hvalue]
        by_cases hm : m = .edge
        · simp [hm]
        · simp [hm]
      · rw [if_neg fun h => hcd h.2, if_neg hcd]
  bins _ _ hb _ := noLatency_takesItem hb ha.latency

/-! ### O52 -/

/-- In a FROZEN bank a report and the samples of a tick leave everything (R163). -/
theorem frozen_drops {s : State} (hb : s.monitor.bank = .frozen) (rs : List Report) (latency : Option (Initiator × Tick)) :
    s.report rs latency = s ∧ s.sampleAll = s := by
  refine ⟨inAnyOrder_of_frozen hb fun k => reportItem_of_frozen rs latency k hb, inAnyOrder_of_frozen hb fun k => ?_⟩
  cases k with
  | some c => exact sample_of_idles (.inl hb)
  | none => rfl

theorem sampleAll_addsInSomeOrder {s : State} {a : Adds} (hb : s.monitor.bank = .running) (ha : s.SamplesAs a) :
    s.AddsInSomeOrder s.sampleAll a.amount a.memory none :=
  ha.latency ▸ inAnyOrder_addsInSomeOrder hb (sample_makesAdds hb ha)

theorem addTo_adds (s : State) (c : CounterIdx) (n : Nat) :
    ((s.addTo c n).counter c).value.toNat = ((s.counter c).value.toNat + n) % 2 ^ 32 ∧
      ((s.addTo c n).counter c).overflow = ((s.counter c).overflow || s.passes c n) := by
  rw [counter_addTo, if_pos rfl]
  refine ⟨?_, rfl⟩
  rw [BitVec.toNat_add, BitVec.toNat_ofNat, Nat.add_mod_mod]

/-- Settles O52: one add by its two outcomes, what a control counts by its codes, and the adds of one event item by item. -/
theorem countersTakeReports : Obligations.CountersTakeReports := by
  refine ⟨fun s c n => ?_, fun k r => ?_, fun k e m => ?_, fun e => ?_, fun s k => ⟨?_, ?_, ?_, rfl, rfl⟩,
    fun edges latency k he => binOf_eq_iff he latency k, fun l => ⟨fun n => arrange_perm l n, exists_arrange_eq l⟩,
    fun s rs latency => ⟨fun hb => frozen_drops hb rs latency, fun hb hrs => ?_, fun hb => ?_⟩⟩
  · obtain ⟨hvalue, hoverflow⟩ := addTo_adds s c n
    exact ⟨hvalue, hoverflow, counterOvf_addTo s c n, bank_addTo s c n, addTo_frame s c n⟩
  · rw [takes_iff_codes, ofCode_event_iff]
    obtain ⟨e, i, q, n⟩ := r
    cases e <;> simp [Event.acceptsQualifier, Event.qualifiers, Control.masks]
  · rw [counting_eq_some_iff, ofCode_event_iff, ofCode_mode_iff]
    cases e <;> simp [Event.acceptsQualifier, Event.qualifiers]
  · cases e <;> decide
  · refine sampleValue_headWait s k fun i => ?_
    obtain ⟨hbudget, hquota, htarget, hhalt⟩ := waiting_admittedBy k.qualifier
    cases s.head i with
    | waiting w =>
      cases w with
      | budget => exact hbudget
      | quota => exact hquota
      | target => exact htarget
      | halt => exact hhalt
    | eligible => rfl
    | noHead => rfl
  · refine sampleValue_trackerUse s k fun x => ?_
    obtain ⟨hissued, hwaiting, hready⟩ := phase_admittedBy k.qualifier
    cases s.entry x with
    | none => rfl
    | some e =>
      refine congrArg₂ (· && ·) (masked_contains k e.initiator).symm ?_
      cases e.phase with
      | issued => exact hissued
      | detached c => exact detached_admittedBy c k.qualifier
      | waiting => exact hwaiting
      | ready => exact hready
  · exact sampleValue_ingressUse s k
  · rw [report_eq]
    exact inAnyOrder_addsInSomeOrder hb (report_makesAdds s latency hrs)
  · refine sampleAll_addsInSomeOrder (a := ⟨_, _, none⟩) hb ⟨fun c hidle => ?_, fun c e m hc he => ?_, fun c e m hc he => ?_, rfl⟩
    · rcases hidle with hf | hc | ⟨e, m, hc, he⟩
      · rw [hb] at hf
        cases hf
      · simp [hc]
      · cases m <;> simp [hc, he]
    · cases m <;> simp [hc, he, State.sampleGain, sampleAdd]
    · cases m <;> simp [hc, he]

end Sys2Proof.Machine
end

section
/-!
The monitor's commands and the registers of its counters (R156, R162, R165, R167, R168, R170), and O36, O38 and O45.
-/

namespace Sys2Proof.Machine

/-! ### WRITE_EDGES (R168) -/

/-- A staged edge list that R168 refuses: a value 0, or one not above the one before it. -/
def State.refusesEdges (s : State) : Prop :=
  ∃ k : Fin 8, k.val < 7 ∧
    ((s.staged k).toNat = 0 ∨ ∃ j : Fin 8, j.val + 1 = k.val ∧ (s.staged k).toNat ≤ (s.staged j).toNat)

/-- The first seven staged words. -/
def State.edgeFields (s : State) : Vector Nat 7 := Vector.ofFn fun k => (s.staged (k.castLE (by decide))).toNat

theorem edgeFields_get (s : State) (k : Fin 7) : s.edgeFields[k] = (s.staged (k.castLE (by decide))).toNat := ofFn_get _ k

theorem stagedEdges_eq (s : State) : s.stagedEdges = if edgesValid s.edgeFields then some s.edgeFields else none := rfl

/-- A list of edges rises from above 0 exactly when it is not refused. -/
theorem edgesValid_edgeFields_iff (s : State) : edgesValid s.edgeFields = true ↔ ¬s.refusesEdges := by
  have hvalid : edgesValid s.edgeFields = true ↔ 0 < (s.staged 0).toNat ∧
      ∀ j : Fin 6, (s.staged (j.castLE (by decide))).toNat < (s.staged (j.succ.castLE (by decide))).toNat := by
    simp [edgesValid, State.edgeFields, Fin.forall_fin_succ, and_assoc]
  rw [hvalid]
  constructor
  · rintro ⟨hfirst, hrise⟩ ⟨⟨k, hk8⟩, hk, hbad⟩
    cases k with
    | zero =>
      rcases hbad with hzero | ⟨j, hj, -⟩
      · exact absurd hzero (Nat.ne_of_gt hfirst)
      · exact absurd hj (Nat.succ_ne_zero _)
    | succ n =>
      have hstep : (s.staged ⟨n, by omega⟩).toNat < (s.staged ⟨n + 1, hk8⟩).toNat := hrise ⟨n, Nat.lt_of_succ_lt_succ hk⟩
      rcases hbad with hzero | ⟨j, hj, hle⟩
      · omega
      · rw [show j = ⟨n, by omega⟩ from Fin.ext (Nat.succ.inj hj)] at hle
        omega
  · intro hgood
    exact ⟨Nat.pos_of_ne_zero fun h => hgood ⟨0, by decide, .inl h⟩, fun j => Nat.lt_of_not_le fun h =>
      hgood ⟨j.succ.castLE (by decide), Nat.succ_lt_succ j.isLt, .inr ⟨j.castLE (by decide), rfl, h⟩⟩⟩

/-- The state with the seven edges replaced. -/
def State.withEdges (s : State) (e : Vector Nat 7) : State := { s with monitor := { s.monitor with edges := e } }

theorem withEdges_frame (s : State) (e : Vector Nat 7) : s.Frame (s.withEdges e) [.edges] := by
  refine ⟨rfl, fun p hp => ?_⟩
  cases p with
  | edges => exact absurd (List.mem_singleton_self _) hp
  | histogramIndex => exact decide_eq_true ⟨rfl, rfl⟩
  | _ => exact decide_eq_true rfl

theorem commandWriteEdges_of_refused {s : State} (h : s.refusesEdges) :
    s.commandWriteEdges = (s.raise .configError).complete 0x24 .invalid := by
  have hstaged : s.stagedEdges = none := by
    rw [stagedEdges_eq, if_neg fun hv => (edgesValid_edgeFields_iff s).mp hv h]
  rw [State.commandWriteEdges, hstaged]
  rfl

theorem commandWriteEdges_of_accepted {s : State} (h : ¬s.refusesEdges) :
    s.commandWriteEdges = (s.withEdges s.edgeFields).complete 0x24 .done := by
  have hstaged : s.stagedEdges = some s.edgeFields := by rw [stagedEdges_eq, if_pos ((edgesValid_edgeFields_iff s).mpr h)]
  rw [State.commandWriteEdges, hstaged]
  rfl

/-- Settles O36: the staged list decides; a refusal is a flag and a status, and a commit writes the edges alone. -/
theorem writeEdgesCommits : Obligations.WriteEdgesCommits := by
  intro s hr
  have hnext := next_of_high hr State.commandWriteEdges
  refine ⟨fun hbad => ?_, fun hgood => ?_⟩
  · rw [commandWriteEdges_of_refused hbad] at hnext
    exact ⟨_, hnext, refuse_completes s 0x24⟩
  · rw [commandWriteEdges_of_accepted hgood] at hnext
    refine ⟨_, hnext, complete_completes rfl _ _, fun k => ?_, frame_trans (withEdges_frame s _) (complete_frame _ _ _)⟩
    rw [complete_of_done]
    exact edgeFields_get s k

/-! ### The bank commands and HIST_CLEAR (R165, R170) -/

theorem setBank_frame (s : State) (b : BankState) : s.Frame (s.setBank b) [.bank] := by
  refine ⟨rfl, fun p hp => ?_⟩
  cases p with
  | bank => exact absurd (List.mem_singleton_self _) hp
  | histogramIndex => exact decide_eq_true ⟨rfl, rfl⟩
  | _ => exact decide_eq_true rfl

theorem bins_clearBins (s : State) (i j : Initiator) :
    (s.clearBins i).monitor.bins[j] = if i = j then Vector.replicate 8 0 else s.monitor.bins[j] := set_get _ i j _

theorem clearBins_frame (s : State) (i : Initiator) : s.Frame (s.clearBins i) [.bins i] := by
  refine ⟨rfl, fun p hp => ?_⟩
  cases p with
  | bins j =>
    have hij : i ≠ j := by rintro rfl; exact hp (List.mem_singleton_self _)
    exact decide_eq_true (by rw [bins_clearBins, if_neg hij])
  | histogramIndex => exact decide_eq_true ⟨rfl, rfl⟩
  | _ => exact decide_eq_true rfl

theorem counter_clearCounters (s : State) (c : CounterIdx) :
    s.clearCounters.counter c = { s.counter c with value := 0, overflow := false, edgeMemory := .below } := by
  simp [State.counter, State.clearCounters]

theorem clearCounters_frame (s : State) : s.Frame s.clearCounters
    ((List.finRange 6).map .counterValue ++ (List.finRange 6).map .overflow ++ (List.finRange 6).map .edgeMemory) := by
  refine ⟨rfl, fun p hp => ?_⟩
  simp only [List.mem_append, List.mem_map, not_or, not_exists, not_and] at hp
  obtain ⟨⟨hvalue, hoverflow⟩, hedge⟩ := hp
  cases p with
  | counterValue c => exact absurd rfl (hvalue c (List.mem_finRange c))
  | overflow c => exact absurd rfl (hoverflow c (List.mem_finRange c))
  | edgeMemory c => exact absurd rfl (hedge c (List.mem_finRange c))
  | counterControl c | readHolding c | writeHolding c => exact decide_eq_true (by rw [counter_clearCounters])
  | histogramIndex => exact decide_eq_true ⟨rfl, rfl⟩
  | _ => exact decide_eq_true rfl

/-- A command whose act keeps COMMAND_REFUSED completes DONE with what the act wrote and no more. -/
theorem done_completes {s u : State} {changed : List Piece} (hflag : u.flag .commandRefused = s.flag .commandRefused)
    (hframe : s.Frame u changed) (code : Word) :
    s.Completes (u.complete code .done) code .done ∧ (u.complete code .done).monitor = u.monitor ∧
      s.Frame (u.complete code .done) (changed ++ Piece.ofCommand) :=
  ⟨complete_completes hflag _ _, by rw [complete_of_done], frame_trans hframe (complete_frame _ _ _)⟩

/-- Settles O38: each command is one update of the monitor, completed DONE. -/
theorem monitorCommands : Obligations.MonitorCommands := by
  intro s hr
  refine ⟨fun i hi => ?_, ?_, ?_, ?_⟩
  · have hnext := next_of_high hr State.commandHistClear
    rw [State.commandHistClear, withArgument_of_lt s 4 _ _ i hi] at hnext
    obtain ⟨hcompletes, hmonitor, hframe⟩ := done_completes (s := s) (u := s.clearBins i) rfl (clearBins_frame s i) Config.codeHistClear
    refine ⟨_, hnext, hcompletes, fun k => ?_, hframe⟩
    rw [hmonitor, bins_clearBins, if_pos rfl]
    simp
  · obtain ⟨hcompletes, hmonitor, hframe⟩ := done_completes (s := s) (u := s.setBank .frozen) rfl (setBank_frame s _) Config.codeCounterFreeze
    exact ⟨_, next_of_high hr State.commandFreeze, hcompletes, congrArg Monitor.bank hmonitor, hframe⟩
  · obtain ⟨hcompletes, hmonitor, hframe⟩ := done_completes (s := s) (u := s.setBank .running) rfl (setBank_frame s _) Config.codeCounterUnfreeze
    exact ⟨_, next_of_high hr State.commandUnfreeze, hcompletes, congrArg Monitor.bank hmonitor, hframe⟩
  · obtain ⟨hcompletes, hmonitor, hframe⟩ := done_completes (s := s) (u := s.clearCounters) rfl (clearCounters_frame s) Config.codeCounterClear
    refine ⟨_, next_of_high hr State.commandClear, hcompletes, fun c => ?_, hframe⟩
    have hcounter : (s.clearCounters.complete Config.codeCounterClear .done).counter c = s.clearCounters.counter c := by
      rw [State.counter, hmonitor, State.counter]
    rw [State.commandClear, hcounter, counter_clearCounters]
    exact ⟨rfl, rfl, rfl⟩

/-! ### Writes of a counter's registers (R156, R162, R167) -/

/-- The pieces of one counter. -/
def Piece.ofCounter (c : CounterIdx) : List Piece :=
  [.counterValue c, .counterControl c, .overflow c, .edgeMemory c, .readHolding c, .writeHolding c]

theorem modCounter_frame (s : State) (c : CounterIdx) (f : Counter → Counter) : s.Frame (s.modCounter c f) (Piece.ofCounter c) := by
  refine ⟨rfl, fun p hp => ?_⟩
  cases p with
  | counterValue d | counterControl d | overflow d | edgeMemory d | readHolding d | writeHolding d =>
    have hcd : c ≠ d := by rintro rfl; exact hp (by simp [Piece.ofCounter])
    exact decide_eq_true (by rw [counter_modCounter, if_neg hcd])
  | histogramIndex => exact decide_eq_true ⟨rfl, rfl⟩
  | _ => exact decide_eq_true rfl

theorem writeCounterHigh_frame (s : State) (c : CounterIdx) (v : Word) : s.Frame (s.writeCounterHigh c v) [.writeHolding c] :=
  frame_narrow (modCounter_frame s c _) (by simp [Piece.ofCounter, Piece.same, State.writeCounterHigh, counter_modCounter])

theorem writeCounterLow_frame (s : State) (c : CounterIdx) (v : Word) : s.Frame (s.writeCounterLow c v) [.counterValue c] :=
  frame_narrow (modCounter_frame s c _) (by simp [Piece.ofCounter, Piece.same, State.writeCounterLow, counter_modCounter])

theorem writeControl_frame (s : State) (c : CounterIdx) (w : ControlWord) (v : Word) :
    s.Frame (s.writeControl c w v) [.counterControl c, .edgeMemory c] :=
  frame_narrow (modCounter_frame s c _) (by simp [Piece.ofCounter, Piece.same, State.writeControl, counter_modCounter])

theorem counter_clearOverflows (s : State) (v : Word) (c : CounterIdx) : (s.clearOverflows v).counter c =
    { s.counter c with overflow := (s.counter c).overflow && !v.getLsbD c } := ofFn_get _ c

theorem clearOverflows_frame (s : State) (v : Word) : s.Frame (s.clearOverflows v) ((List.finRange 6).map .overflow) := by
  refine ⟨rfl, fun p hp => ?_⟩
  cases p with
  | overflow c => exact absurd (List.mem_map_of_mem (List.mem_finRange c)) hp
  | counterValue c | counterControl c | edgeMemory c | readHolding c | writeHolding c =>
    exact decide_eq_true (by rw [counter_clearOverflows])
  | histogramIndex => exact decide_eq_true ⟨rfl, rfl⟩
  | _ => exact decide_eq_true rfl

/-- The counter after a low-word write (R167). -/
theorem joinWords_toNat (hi lo : Word) : (joinWords hi lo).toNat = hi.toNat * 65536 + lo.toNat := by
  rw [joinWords, BitVec.toNat_append, ← Nat.shiftLeft_add_eq_or_of_lt lo.isLt, Nat.shiftLeft_eq]

/-- A field of a word, as a number. -/
theorem extract_toNat (v : Word) (pos width : Nat) : (v.extractLsb' pos width).toNat = v.toNat / 2 ^ pos % 2 ^ width := by
  rw [BitVec.extractLsb'_toNat, Nat.shiftRight_eq_div_pow]

/-- One bit of a word, as a number. -/
theorem getLsbD_toNat (v : Word) (pos : Nat) : (v.getLsbD pos).toNat = v.toNat / 2 ^ pos % 2 := by
  rw [BitVec.getLsbD, Nat.testBit_eq_decide_div_mod_eq]
  have := Nat.mod_two_eq_zero_or_one (v.toNat / 2 ^ pos)
  rcases this with h | h <;> simp [h]

/-- Control word A reads back its written bits, its unused ones as 0 (11.2). -/
theorem wordA_of_written (v : Word) (k : Control) : Control.wordA { k with
    enable := v.getLsbD 0, event := v.extractLsb' 1 4, mode := v.extractLsb' 5 3, qualifier := v.extractLsb' 8 3 } = v &&& 0x07FF := by
  have hv := v.isLt
  apply BitVec.eq_of_toNat_eq
  have hmask : (v &&& 0x07FF).toNat = v.toNat % 2048 := Nat.and_two_pow_sub_one_eq_mod v.toNat 11
  rw [hmask, Control.wordA, pack, BitVec.toNat_ofNat]
  simp only [List.map_cons, List.map_nil, List.sum_cons, List.sum_nil, getLsbD_toNat, extract_toNat]
  omega

/-- Control word B reads back its written bits, its unused ones as 0 (11.2). -/
theorem wordB_of_written (v : Word) (k : Control) : Control.wordB { k with
    mask := v.extractLsb' 0 4, overflowInterrupt := v.getLsbD 4, freezeOnOverflow := v.getLsbD 5, threshold := v.extractLsb' 8 8 } =
      v &&& 0xFF3F := by
  have hv := v.isLt
  apply BitVec.eq_of_toNat_eq
  have hlow : (v &&& 0xFF3F).toNat % 256 = v.toNat % 64 :=
    calc (v.toNat &&& 0xFF3F) % 2 ^ 8
      _ = v.toNat % 2 ^ 8 &&& 2 ^ 6 - 1 := Nat.and_mod_two_pow
      _ = v.toNat % 2 ^ 8 % 2 ^ 6 := Nat.and_two_pow_sub_one_eq_mod _ 6
      _ = v.toNat % 64 := by omega
  have hhigh : (v &&& 0xFF3F).toNat / 256 = v.toNat / 256 :=
    calc (v.toNat &&& 0xFF3F) / 2 ^ 8
      _ = v.toNat / 2 ^ 8 &&& 2 ^ 8 - 1 := Nat.and_div_two_pow
      _ = v.toNat / 2 ^ 8 % 2 ^ 8 := Nat.and_two_pow_sub_one_eq_mod _ 8
      _ = v.toNat / 256 := by omega
  have hmask : (v &&& 0xFF3F).toNat = v.toNat % 64 + 256 * (v.toNat / 256) := by omega
  rw [hmask, Control.wordB, pack, BitVec.toNat_ofNat]
  simp only [List.map_cons, List.map_nil, List.sum_cons, List.sum_nil, getLsbD_toNat, extract_toNat]
  omega

/-- Settles O45: each write is one update of one counter, whose control word reads back what was written. -/
theorem counterWrites : Obligations.CounterWrites := by
  intro c v s hr
  have hcontrol : ∀ w, (s.writeControl c w v).counter c = _ := fun w => (counter_modCounter s c c _).trans (if_pos rfl)
  have hread : ∀ (t : State) (n k : Nat), n = 0x80 + 4 * c.val + k → k < 4 → t.readWord (BitVec.ofNat 8 n) = (t.counter c).word k :=
    fun t n k => readWord_counter t c
  refine ⟨⟨_, next_of_high hr fun t => t.writeCounterHigh c v, ?_, writeCounterHigh_frame s c v⟩,
    ⟨_, next_of_high hr fun t => t.writeCounterLow c v, ?_, writeCounterLow_frame s c v⟩,
    ⟨_, next_of_high hr fun t => t.writeControl c .a v, ?_, ?_, ?_, writeControl_frame s c .a v⟩,
    ⟨_, next_of_high hr fun t => t.writeControl c .b v, ?_, ?_, ?_, writeControl_frame s c .b v⟩,
    ⟨_, next_of_high hr fun t => t.clearOverflows v, fun d => by rw [counter_clearOverflows], clearOverflows_frame s v⟩⟩
  · rw [State.writeCounterHigh, counter_modCounter, if_pos rfl]
  · rw [State.writeCounterLow, counter_modCounter, if_pos rfl]
    exact joinWords_toNat _ v
  · rw [hcontrol]
  · rw [hcontrol]
    exact ⟨rfl, extract_toNat v 1 4, extract_toNat v 5 3, extract_toNat v 8 3, rfl⟩
  · rw [hread _ _ 2 (by omega) (by decide), hcontrol]
    exact wordA_of_written v _
  · rw [hcontrol]
  · rw [hcontrol]
    exact ⟨(extract_toNat v 0 4).trans (by simp), rfl, rfl, (extract_toNat v 8 8).trans (by omega), rfl⟩
  · rw [hread _ _ 3 (by omega) (by decide), hcontrol]
    exact wordB_of_written v _

end Sys2Proof.Machine
end

section
/-!
FAULT_POP (R179) and the interrupt registers with INT_N (R182, R183), and O40 and O46.
-/

namespace Sys2Proof.Machine

/-! ### FAULT_POP (R179) -/

/-- The state with another fault log. -/
def State.withFaultLog (s : State) (l : List FaultRecord) : State := { s with faultLog := l }

theorem withFaultLog_frame (s : State) (l : List FaultRecord) : s.Frame (s.withFaultLog l) [.faultLog] := by
  refine ⟨rfl, fun p hp => ?_⟩
  cases p with
  | faultLog => exact absurd (List.mem_singleton_self _) hp
  | histogramIndex => exact decide_eq_true ⟨rfl, rfl⟩
  | _ => exact decide_eq_true rfl

theorem commandFaultPop_of_nil {s : State} (h : s.faultLog = []) : s.commandFaultPop = s.complete 0x51 .refusedState := by
  rw [State.commandFaultPop, h]
  rfl

theorem commandFaultPop_of_cons {s : State} {f : FaultRecord} {rest : List FaultRecord} (h : s.faultLog = f :: rest) :
    s.commandFaultPop = (s.withFaultLog rest).complete 0x51 .done := by
  rw [State.commandFaultPop, h]
  rfl

/-- Settles O40: a log with a head keeps the records behind it and completes DONE; an empty log is a refusal alone. -/
theorem faultPopRemovesHead : Obligations.FaultPopRemovesHead := by
  intro s hr
  have hnext := next_of_high hr State.commandFaultPop
  refine ⟨fun f rest hlog => ?_, fun hlog => ?_⟩
  · rw [commandFaultPop_of_cons hlog] at hnext
    refine ⟨_, hnext, complete_completes rfl _ _, ?_, frame_trans (withFaultLog_frame s rest) (complete_frame _ _ _)⟩
    rw [complete_of_done]
    rfl
  · rw [commandFaultPop_of_nil hlog] at hnext
    exact ⟨_, hnext, complete_completes rfl _ _, complete_frame s _ _⟩

/-! ### The interrupt registers (R182, R183) -/

/-- The fifteen interrupt flags. -/
def Piece.ofFlags : List Piece :=
  (initiators.map fun i => .flag (.drainDone i)) ++ (initiators.map fun i => .flag (.portReset i)) ++
    [.flag .targetState, .flag .fault, .flag .faultLost, .flag .counterOvf, .flag .budgetWait, .flag .commandRefused,
     .flag .configError]

theorem flag_mem_ofFlags (c : Cause) : .flag c ∈ Piece.ofFlags := by
  cases c with
  | drainDone i | portReset i => simp [Piece.ofFlags, mem_initiators]
  | _ => simp [Piece.ofFlags]

theorem clearFlags_frame (s : State) (v : Word) : s.Frame (s.clearFlags v) Piece.ofFlags := by
  refine ⟨rfl, fun p hp => ?_⟩
  cases p with
  | flag c => exact absurd (flag_mem_ofFlags c) hp
  | histogramIndex => exact decide_eq_true ⟨rfl, rfl⟩
  | _ => exact decide_eq_true rfl

theorem writeEnables_frame (s : State) (v : Word) : s.Frame (s.writeEnables v) [.enables] := by
  refine ⟨rfl, fun p hp => ?_⟩
  cases p with
  | enables => exact absurd (List.mem_singleton_self _) hp
  | histogramIndex => exact decide_eq_true ⟨rfl, rfl⟩
  | _ => exact decide_eq_true rfl

theorem enable_writeEnables (s : State) (v : Word) (c : Cause) :
    (s.writeEnables v).interrupts.enables.getLsbD c.place = v.getLsbD c.place := by
  rw [State.writeEnables, BitVec.getLsbD_setWidth, decide_eq_true c.place_lt, Bool.true_and]

/-- The enable register reads back what was written, its unused bit as 0 (11.2). -/
theorem readWord_enables_of_written (s : State) (v : Word) : (s.writeEnables v).readWord 0x11 = v &&& 0x7FFF := by
  have hread : (s.writeEnables v).readWord 0x11 = (v.setWidth 15).setWidth 16 := rfl
  have hmask : (v &&& 0x7FFF).toNat = v.toNat % 2 ^ 15 := Nat.and_two_pow_sub_one_eq_mod v.toNat 15
  apply BitVec.eq_of_toNat_eq
  rw [hread, hmask, BitVec.toNat_setWidth, BitVec.toNat_setWidth]
  omega

/-- Two 15-bit registers meet exactly at the place of some cause. -/
theorem and_ne_zero_iff (a b : BitVec 15) : a &&& b ≠ 0 ↔ ∃ c : Cause, a.getLsbD c.place = true ∧ b.getLsbD c.place = true := by
  constructor
  · intro hne
    by_contra hnone
    refine hne (flags_ext fun c => ?_)
    have hc : ¬(a.getLsbD c.place && b.getLsbD c.place) = true := fun h => hnone ⟨c, (Bool.and_eq_true_iff ..).mp h⟩
    rw [BitVec.getLsbD_and, Bool.eq_false_of_not_eq_true hc]
    exact BitVec.getLsbD_zero.symm
  · rintro ⟨c, ha, hb⟩ hzero
    have hbit : (a &&& b).getLsbD c.place = true := by rw [BitVec.getLsbD_and, ha, hb]; rfl
    rw [hzero] at hbit
    exact Bool.false_ne_true (BitVec.getLsbD_zero.symm.trans hbit)

/-- INT_N is low exactly while a flag is set whose enable is on (R183). -/
theorem intLow_iff {s : State} (hr : s.rstN = true) :
    s.intLow = true ↔ ∃ c : Cause, s.flag c = true ∧ s.interrupts.enables.getLsbD c.place = true := by
  rw [State.intLow, hr, Bool.true_and, bne_iff_ne]
  exact and_ne_zero_iff _ _

/-- Settles O46: each register is written alone, bit by bit, and INT_N is low where the two registers meet. -/
theorem interruptRegisterWrites : Obligations.InterruptRegisterWrites := fun v s hr =>
  ⟨⟨_, next_of_high hr fun t => t.clearFlags v, flag_clearFlags s v, rfl, clearFlags_frame s v⟩,
    ⟨_, next_of_high hr fun t => t.writeEnables v, enable_writeEnables s v, readWord_enables_of_written s v, writeEnables_frame s v⟩,
    intLow_iff hr⟩

end Sys2Proof.Machine
end

section
/-!
The traffic reset (R193): all that it writes, its frame, and O41.
-/

namespace Sys2Proof.Machine

/-! ### All that a traffic reset writes -/

/-- The ports' part of a traffic reset: the ports and their links alone (R154). -/
theorem foldl_resetPortTraffic_only (l : List Initiator) (s : State) : ∃ ports sent,
    l.foldl State.resetPortTraffic s = { s with ports := ports, links := { s.links with toInitiator := sent } } :=
  List.foldlRecOn (motive := fun t => ∃ ports sent, t = { s with ports := ports, links := { s.links with toInitiator := sent } })
    l State.resetPortTraffic ⟨s.ports, s.links.toInitiator, rfl⟩ fun t ht i _ => by
      obtain ⟨ports, sent, rfl⟩ := ht
      unfold State.resetPortTraffic
      simp only
      split <;> exact ⟨_, _, rfl⟩

/-- The target port at traffic reset, its resync wait and its detach limit kept (R120). -/
def TargetPort.cleared (t : TargetPort) : TargetPort :=
  { t with state := .offline, credits := 0, highQueue := [], normalQueue := [], consecutiveHigh := 0, resyncTimer := none }

/-- The target's part of a traffic reset: its port, its link and a flag (R120). -/
theorem resetTarget_only (s : State) : ∃ flags, s.resetTarget = { s with
    target := s.target.cleared, links := { s.links with toTarget := s.links.toTarget ++ [.linkReset] },
    interrupts := { s.interrupts with flags := flags } } := by
  unfold State.resetTarget
  simp only
  split <;> exact ⟨_, rfl⟩

/-- TARGET_STATE is reported when the target was not OFFLINE (R120). -/
theorem flag_resetTarget (s : State) : s.resetTarget.flag .targetState =
    (s.flag .targetState || decide (s.target.state ≠ .offline)) := by
  unfold State.resetTarget
  simp only
  by_cases h : s.target.state = .offline
  · rw [if_pos h, decide_eq_false (not_not_intro h), Bool.or_false]
    rfl
  · rw [if_neg h, flag_raise, decide_eq_true rfl, decide_eq_true h]
    rfl

/-- The regulation unit at traffic reset: the budgets refilled, the period begun again (R96). -/
def State.restartedRegulation (s : State) : Regulation :=
  { s.regulation with
    remaining := Vector.ofFn fun i => (s.profile i).budget
    timer := if s.regulation.period = 0 then none else some { ticks := 0 } }

/-- A traffic reset writes the traffic of each block, and of the rest only messages and flags (R193). -/
theorem trafficReset_only (s : State) : ∃ ports sent flags, s.trafficReset = { s with
    tracker := Vector.replicate 64 none
    ports := ports
    admission := { s.admission with heads := Vector.replicate 4 .noHead, highPointer := 3, normalPointer := 3 }
    regulation := s.restartedRegulation
    target := s.target.cleared
    links := { toInitiator := sent, toTarget := s.links.toTarget ++ [.linkReset] }
    interrupts := { s.interrupts with flags := flags } } := by
  obtain ⟨ports, sent, hports⟩ := foldl_resetPortTraffic_only initiators s
  obtain ⟨flags, htarget⟩ := resetTarget_only
    (State.clearTraffic { s with ports := ports, links := { s.links with toInitiator := sent } })
  refine ⟨ports, sent, flags, ?_⟩
  rw [State.trafficReset, hports, htarget]
  rfl

theorem trafficReset_targetFlag (s : State) : s.trafficReset.flag .targetState =
    (s.flag .targetState || decide (s.target.state ≠ .offline)) := by
  obtain ⟨ports, sent, hports⟩ := foldl_resetPortTraffic_only initiators s
  rw [State.trafficReset, hports, flag_resetTarget]
  rfl

/-! ### Its frame -/

/-- What a traffic reset may change: every block's traffic. -/
def Piece.ofTraffic : List Piece :=
  Piece.ofClaim ++ initiators.map Piece.portState ++ initiators.map Piece.granted ++ initiators.map Piece.queue ++
    initiators.map Piece.head ++ initiators.map Piece.remaining ++ initiators.map Piece.link ++
    [Piece.highPointer, .normalPointer, .periodTimer, .targetState, .credits, .consecutiveHigh, .resyncTimer, .targetLink,
     .flag .targetState]

/-- Configuration and observations stay (R193). -/
theorem trafficReset_frame (s : State) : s.Frame s.trafficReset Piece.ofTraffic := by
  obtain ⟨-, -, hflag⟩ := trafficReset_ports s 0
  obtain ⟨ports, sent, flags, h⟩ := trafficReset_only s
  rw [h] at hflag ⊢
  refine ⟨rfl, fun p hp => ?_⟩
  cases p with
  | entry x => exact absurd (by simp [Piece.ofTraffic, Piece.ofClaim, mem_entryIndices]) hp
  | portState i | granted i | queue i | head i | remaining i | link i => exact absurd (by simp [Piece.ofTraffic, mem_initiators]) hp
  | highPointer | normalPointer | periodTimer | targetState | credits | highQueue | normalQueue | consecutiveHigh | resyncTimer
  | targetLink => exact absurd (by simp [Piece.ofTraffic, Piece.ofClaim]) hp
  | flag c => exact decide_eq_true (hflag c fun hc => hp (by simp [Piece.ofTraffic, hc]))
  | histogramIndex => exact decide_eq_true ⟨rfl, rfl⟩
  | _ => exact decide_eq_true rfl

/-! ### O41 -/

/-- Settles O41: the traffic of every block is cleared, each link is told, and the completion writes the command's status alone. -/
theorem trafficResetClearsTraffic : Obligations.TrafficResetClearsTraffic := by
  intro s hr
  obtain ⟨hentry, -⟩ := trafficReset_clears s
  obtain ⟨-, -, hflag⟩ := trafficReset_ports s 0
  have hports := trafficReset_ports s
  have htargetFlag := trafficReset_targetFlag s
  have hwrites := trafficReset_only s
  have hcompletes := complete_completes (hflag .commandRefused (by simp)) 0x7F .done
  have hframe := frame_trans (trafficReset_frame s) (complete_frame s.trafficReset 0x7F .done)
  refine ⟨_, next_of_high hr State.commandTrafficReset, hcompletes, ?_⟩
  rw [complete_of_done] at hframe
  rw [State.commandTrafficReset, complete_of_done]
  generalize s.trafficReset = w at *
  obtain ⟨ports, sent, flags, rfl⟩ := hwrites
  refine ⟨hentry, fun i => ?_, rfl, rfl, rfl, rfl, rfl, htargetFlag, hframe⟩
  obtain ⟨hport, hsent, -⟩ := hports i
  refine ⟨hport, ?_, ofFn_get _ i, hsent.trans ?_⟩
  · simp [State.head]
  · by_cases hd : (s.port i).state = .disabled <;> simp [hd]

end Sys2Proof.Machine
end

section
/-!
Commands that no owner takes (R190, R191), and O42.
-/

namespace Sys2Proof.Machine

/-! ### An unassigned code (R190) -/

theorem wellFormed_unassignedCommand_iff (code : Word) :
    (Instr.unassignedCommand code).wellFormed = true ↔ code ∉ Config.assignedCodes := by
  simp [Instr.wellFormed]

/-- A code outside the command table has no owner. -/
theorem writeCommand_of_unassigned {code : Word} (h : code ∉ Config.assignedCodes) (s : State) :
    s.writeCommand code = s.complete code .unknown := by
  unfold State.writeCommand
  iterate 18 rw [if_neg (by rintro rfl; exact h (by decide))]
  rfl

/-- The status register after a completion shows the status and the code's low byte. -/
theorem readWord_status_complete (s : State) (code : Word) (st : CommandStatus) :
    ((s.complete code st).readWord 0x16).toNat = st.code + 256 * (code.toNat % 256) := by
  obtain ⟨flags, h⟩ := complete_only s code st
  rw [readWord_status, h]
  cases st <;> rfl

/-! ### An argument out of range (R191) -/

/-- A command refused for its argument completes INVALID, whatever its owner would do. -/
theorem refused_of_outOfRange {s : State} (hr : s.rstN = true) {c : Instr} {n : Nat} {code : Word}
    {act : Fin n → State → State × CommandStatus} (hexec : exec c s = .next (s.outOfReset fun t => t.withArgument n code act))
    (h : n ≤ s.management.argument.toNat) :
    ∃ t, exec c s = .next t ∧ s.Completes t code .invalid ∧ s.Frame t Piece.ofCommand := by
  rw [next_of_high hr, withArgument_of_ge s n code act h] at hexec
  exact ⟨_, hexec, complete_completes rfl _ _, complete_frame s _ _⟩

/-- Settles O42: neither command reaches an owner, and each is its own completion alone. -/
theorem refusedCommandsChangeNothing : Obligations.RefusedCommandsChangeNothing := by
  intro s hr
  refine ⟨fun code hcode => ?_, ?_⟩
  · have hnext := next_of_high hr fun t => t.writeCommand code
    rw [writeCommand_of_unassigned ((wellFormed_unassignedCommand_iff code).mp hcode)] at hnext
    exact ⟨_, hnext, complete_completes rfl _ _, readWord_status_complete s code .unknown, complete_frame s _ _⟩
  · simp only [List.forall_mem_cons, List.not_mem_nil, false_implies, implies_true, and_true]
    and_intros <;> exact refused_of_outOfRange hr rfl

end Sys2Proof.Machine
end

section
/-!
The register window and the management bus (R186 to R190), and O47 and O48.
-/

namespace Sys2Proof.Machine

/-! ### Writes without a row of their own (R187, R190) -/

/-- Which addresses have no row of their own, by their ranges. -/
theorem wellFormed_registerWrite_iff (a : BitVec 8) (v : Word) : (Instr.registerWrite a v).wellFormed = true ↔
    ¬(0x08 ≤ a.toNat ∧ a.toNat ≤ 0x0B) ∧ a.toNat ≠ 0x10 ∧ a.toNat ≠ 0x11 ∧ a.toNat ≠ 0x14 ∧ ¬(0x18 ≤ a.toNat ∧ a.toNat ≤ 0x1F) ∧
      ¬(0x80 ≤ a.toNat ∧ a.toNat ≤ 0x98) ∧ a.toNat ≠ 0xA8 := by
  simp only [Instr.wellFormed, Config.hasOwnWriteRow, Bool.not_eq_true', ← Bool.not_eq_true, Bool.or_eq_true, Bool.and_eq_true,
    decide_eq_true_eq, beq_iff_eq, not_or, and_assoc, ne_eq]

/-- A write to an address that no rule owns, the argument register apart, is ignored. -/
theorem writeWord_of_unowned {a : BitVec 8} {v : Word} (hw : (Instr.registerWrite a v).wellFormed = true) (ha : a ≠ 0x15) (s : State) :
    s.writeWord a v = s := by
  have hargument : a.toNat ≠ 0x15 := fun h => ha (BitVec.eq_of_toNat_eq h)
  have hrow := (wellFormed_registerWrite_iff a v).mp hw
  unfold State.writeWord
  simp only
  iterate 12 rw [if_neg (by omega)]

theorem exec_registerWrite_of_unowned {a : BitVec 8} {v : Word} (hw : (Instr.registerWrite a v).wellFormed = true) (ha : a ≠ 0x15)
    {s : State} (hr : s.rstN = true) : exec (.registerWrite a v) s = .next s := by
  have hnext := next_of_high hr fun t => t.writeWord a v
  rwa [writeWord_of_unowned hw ha] at hnext

/-! ### The histogram index (R189) -/

theorem writeHistogramIndex_frame (s : State) (v : Word) : s.Frame (s.writeHistogramIndex v) [.histogramIndex] := by
  refine ⟨rfl, fun p hp => ?_⟩
  cases p with
  | histogramIndex => exact absurd (List.mem_singleton_self _) hp
  | _ => exact decide_eq_true rfl

theorem histogramBin_writeHistogramIndex (s : State) (v : Word) :
    (s.writeHistogramIndex v).management.histogramBin.val = v.toNat % 8 := by
  simp [State.writeHistogramIndex, bits]

theorem histogramInitiator_writeHistogramIndex (s : State) (v : Word) :
    (s.writeHistogramIndex v).management.histogramInitiator.val = v.toNat / 8 % 4 := by
  simp [State.writeHistogramIndex, bits]

theorem readWord_histogramIndex (s : State) : (s.readWord 0xA8).toNat =
    s.management.histogramBin + 8 * s.management.histogramInitiator := by
  have hw : s.readWord 0xA8 = pack [(s.management.histogramBin, 0), (s.management.histogramInitiator, 3)] := rfl
  have hb := s.management.histogramBin.isLt
  have hi := s.management.histogramInitiator.isLt
  rw [hw, pack_toNat _ (by simp; omega)]
  simp
  omega

/-- The index register reads back what was written, its unused bits as 0 (11.2). -/
theorem readWord_histogramIndex_of_written (s : State) (v : Word) : (s.writeHistogramIndex v).readWord 0xA8 = v &&& 0x1F := by
  have hmask : (v &&& 0x1F).toNat = v.toNat % 2 ^ 5 := Nat.and_two_pow_sub_one_eq_mod v.toNat 5
  apply BitVec.eq_of_toNat_eq
  rw [readWord_histogramIndex, histogramBin_writeHistogramIndex, histogramInitiator_writeHistogramIndex, hmask]
  omega

/-- The bin register shows the bin the index names. -/
theorem readWord_histogramBin (s : State) : s.readWord 0xA9 =
    BitVec.ofNat 16 s.monitor.bins[s.management.histogramInitiator][s.management.histogramBin] := by
  have hw : s.readWord 0xA9 = pack [(s.monitor.bins[s.management.histogramInitiator][s.management.histogramBin], 0)] := rfl
  rw [hw, pack]
  simp

/-- An event whose frame leaves the index leaves the register that shows it. -/
theorem readWord_histogramIndex_of_frame {s t : State} {l : List Piece} (h : s.Frame t l) (hl : Piece.histogramIndex ∉ l) :
    t.readWord 0xA8 = s.readWord 0xA8 := by
  obtain ⟨hbin, hinitiator⟩ := of_decide_eq_true (h.2 .histogramIndex hl)
  apply BitVec.eq_of_toNat_eq
  rw [readWord_histogramIndex, readWord_histogramIndex, hbin, hinitiator]

/-- Settles O47: the index is written and read by its two fields, a traffic reset leaves it, and its bin and the edges take no write. -/
theorem histogramIndexNamesABin : Obligations.HistogramIndexNamesABin := by
  intro v s hr
  have htraffic : s.Frame s.commandTrafficReset (Piece.ofTraffic ++ Piece.ofCommand) :=
    frame_trans (trafficReset_frame s) (complete_frame _ _ _)
  refine ⟨⟨_, next_of_high hr fun t => t.writeHistogramIndex v, histogramBin_writeHistogramIndex s v,
      histogramInitiator_writeHistogramIndex s v, readWord_histogramIndex_of_written s v, writeHistogramIndex_frame s v⟩,
    readWord_histogramBin s, ⟨_, rfl, rfl⟩,
    ⟨_, next_of_high hr State.commandTrafficReset, readWord_histogramIndex_of_frame htraffic ?_⟩,
    exec_registerWrite_of_unowned rfl (by decide) hr, fun a hlow hhigh => ?_⟩
  · simp [Piece.ofTraffic, Piece.ofClaim, Piece.ofCommand]
  · refine exec_registerWrite_of_unowned ((wellFormed_registerWrite_iff a v).mpr (by omega)) (fun h => ?_) hr
    rw [h] at hlow
    exact absurd hlow (by decide)

/-! ### The staging area and the argument register (R188, R190) -/

theorem setStaged_frame (s : State) (k : Fin 8) (v : Word) : s.Frame (s.setStaged k v) [.staging k] := by
  refine ⟨rfl, fun p hp => ?_⟩
  cases p with
  | staging j =>
    have hkj : k ≠ j := by rintro rfl; exact hp (List.mem_singleton_self _)
    exact decide_eq_true (by rw [staged_setStaged, if_neg hkj])
  | histogramIndex => exact decide_eq_true ⟨rfl, rfl⟩
  | _ => exact decide_eq_true rfl

theorem readWord_staged (s : State) (k : Fin 8) : s.readWord (BitVec.ofNat 8 (0x18 + k)) = s.staged k := by
  have hk := k.isLt
  have ha : (BitVec.ofNat 8 (0x18 + k)).toNat = 0x18 + k := by
    rw [BitVec.toNat_ofNat]
    omega
  unfold State.readWord
  simp only [ha]
  iterate 13 rw [if_neg (by omega)]
  rw [if_pos (by omega)]
  simp [State.staged]

theorem writeArgument_frame (s : State) (v : Word) : s.Frame (s.writeArgument v) [.argument] := by
  refine ⟨rfl, fun p hp => ?_⟩
  cases p with
  | argument => exact absurd (List.mem_singleton_self _) hp
  | histogramIndex => exact decide_eq_true ⟨rfl, rfl⟩
  | _ => exact decide_eq_true rfl

/-! ### Cycles of the bus (R186) -/

theorem drive_frame (s : State) (v : Word) : s.Frame (s.drive v) [.busData] := by
  refine ⟨rfl, fun p hp => ?_⟩
  cases p with
  | busData => exact absurd (List.mem_singleton_self _) hp
  | histogramIndex => exact decide_eq_true ⟨rfl, rfl⟩
  | _ => exact decide_eq_true rfl

theorem busCycle_of_no_access {b : BusCycle} (h : b.mcsN = true ∨ b.mrdN = b.mwrN) (s : State) :
    s.busCycle b = .next s ∧ s.busDrives b = none := by
  have hnone : b.access = none := by
    rcases access_cases b with ⟨hm, hr, hw, -⟩ | ⟨hm, hr, hw, -⟩ | ⟨-, hnone⟩
    · simp [hm, hr, hw] at h
    · simp [hm, hr, hw] at h
    · exact hnone
  simp only [State.busCycle, State.busDrives, hnone, and_self]

theorem commandOfCode_of_unassigned {code : Word} (h : code ∉ Config.assignedCodes) : commandOfCode code = .unassignedCommand code := by
  unfold commandOfCode
  iterate 18 rw [if_neg (by rintro rfl; exact h (by decide))]

/-- The row of a code is one that the bus can deliver: UNASSIGNED_COMMAND only for a code outside the table (R190). -/
theorem wellFormed_commandOfCode (code : Word) : (commandOfCode code).wellFormed = true := by
  by_cases h : code ∈ Config.assignedCodes
  · unfold Config.assignedCodes at h
    fin_cases h <;> rfl
  · rw [commandOfCode_of_unassigned h]
    exact (wellFormed_unassignedCommand_iff code).mpr h

theorem wellFormed_counterWriteCommand (c : CounterIdx) (k : Nat) (v : Word) : (counterWriteCommand c k v).wellFormed = true := by
  unfold counterWriteCommand
  split <;> rfl

theorem wellFormed_ite {p : Prop} [Decidable p] {c d : Instr} (hc : c.wellFormed = true) (hd : ¬p → d.wellFormed = true) :
    (if p then c else d).wellFormed = true := by
  split
  · exact hc
  · exact hd ‹_›

/-- The row of an address is one that the bus can deliver: REGISTER_WRITE only for an address without a row of its own (R187). -/
theorem wellFormed_writeCommandAt (a : BitVec 8) (v : Word) : (writeCommandAt a v).wellFormed = true := by
  unfold writeCommandAt
  simp only
  refine wellFormed_ite rfl fun hprescaler => wellFormed_ite rfl fun hperiod => wellFormed_ite rfl fun hlimit =>
    wellFormed_ite rfl fun hwait => wellFormed_ite rfl fun hflags => wellFormed_ite rfl fun henables =>
    wellFormed_ite (wellFormed_commandOfCode v) fun hcommand => wellFormed_ite rfl fun hstaging =>
    wellFormed_ite (wellFormed_counterWriteCommand _ _ v) fun hcounter => wellFormed_ite rfl fun hoverflow =>
    wellFormed_ite rfl fun hindex => (wellFormed_registerWrite_iff a v).mpr ?_
  omega

/-- A read of a counter's low word is the row that latches its high word (R166). -/
theorem readCommandAt_counter (c : CounterIdx) : readCommandAt (BitVec.ofNat 8 (0x80 + 4 * c)) = some (.counterValueLowRead c) := by
  fin_cases c <;> rfl

/-- No other read has a row (R186). -/
theorem readCommandAt_of_no_latch {a : BitVec 8} (htick : a ≠ 0x0C) (hcounter : ∀ c : CounterIdx, a ≠ BitVec.ofNat 8 (0x80 + 4 * c)) :
    readCommandAt a = none := by
  have hlow : ¬a.toNat = 0x0C := fun h => htick (BitVec.eq_of_toNat_eq h)
  have hvalue : ¬(0x80 ≤ a.toNat ∧ a.toNat ≤ 0x97 ∧ a.toNat % 4 = 0) := fun h =>
    hcounter ⟨(a.toNat - 0x80) / 4, by omega⟩ (BitVec.eq_of_toNat_eq (by rw [BitVec.toNat_ofNat]; simp only; omega))
  unfold readCommandAt
  simp only
  rw [if_neg hlow, if_neg hvalue]

/-- A write cycle: strobe MWR_N alone low. -/
def writeCycle (a : BitVec 8) (v : Word) : BusCycle := { mcsN := false, mrdN := true, mwrN := false, address := a, data := v }

/-- A read cycle: strobe MRD_N alone low. -/
def readCycle (a : BitVec 8) (v : Word) : BusCycle := { mcsN := false, mrdN := false, mwrN := true, address := a, data := v }

/-- A write cycle does what a write of its word to its address does, and drives nothing. -/
theorem busCycle_writeCycle (a : BitVec 8) (v : Word) (s : State) : s.busDrives (writeCycle a v) = none ∧
    s.busCycle (writeCycle a v) = exec (writeCommandAt a v) s ∧ (writeCommandAt a v).wellFormed = true ∧
      s.busCycle (writeCycle a v) = exec (.registerWrite a v) s :=
  ⟨rfl, rfl, wellFormed_writeCommandAt a v, exec_writeCommandAt a v s⟩

/-- A read cycle is the row of its address, where it has one, and else drives the addressed word alone. -/
theorem busCycle_readCycle (a : BitVec 8) (v : Word) (s : State) : s.busCycle (readCycle a v) =
    (readCommandAt a).elim (.next (s.outOfReset fun t => t.drive (t.readWord a))) fun c => exec c s := by
  have haccess : (readCycle a v).access = some (.read a) := rfl
  simp only [State.busCycle, haccess]
  cases readCommandAt a <;> rfl

theorem busCycle_readCycle_of_row {a : BitVec 8} {c : Instr} (h : readCommandAt a = some c) (v : Word) (s : State) :
    s.busCycle (readCycle a v) = exec c s := by
  rw [busCycle_readCycle, h, Option.elim_some]

theorem busCycle_readCycle_of_no_row {a : BitVec 8} (h : readCommandAt a = none) (v : Word) {s : State} (hr : s.rstN = true) :
    s.busCycle (readCycle a v) = .next (s.drive (s.readWord a)) := by
  rw [busCycle_readCycle, h, Option.elim_none, next_of_high hr]

/-- Settles O48: each write is one update or none, and a cycle of the bus is its row's command, or drives the word it addresses. -/
theorem stagingAndOtherWrites : Obligations.StagingAndOtherWrites := by
  intro v s
  refine ⟨fun hr b => busCycle_low s b hr, fun hr => ⟨fun k => ?_, ?_, fun a hw ha => exec_registerWrite_of_unowned hw ha hr,
    fun b hb => busCycle_of_no_access hb s, fun a => ⟨busCycle_writeCycle a v s, ?_, ?_, fun c hc => ?_, fun htick hcounter => ?_⟩⟩⟩
  · have hstaged : (s.setStaged k v).staged k = v := by rw [staged_setStaged, if_pos rfl]
    exact ⟨_, next_of_high hr fun t => t.setStaged k v, hstaged, (readWord_staged _ k).trans hstaged, setStaged_frame s k v⟩
  · exact ⟨_, next_of_high hr fun t => t.writeArgument v, rfl, rfl, writeArgument_frame s v⟩
  · exact if_pos hr
  · rintro rfl
    exact busCycle_readCycle_of_row rfl v s
  · exact busCycle_readCycle_of_row (hc ▸ readCommandAt_counter c) v s
  · exact ⟨_, busCycle_readCycle_of_no_row (readCommandAt_of_no_latch htick hcounter) v hr, rfl, drive_frame s _⟩

end Sys2Proof.Machine
end

section
/-!
The laws right after device reset (R195), and O59.
-/

namespace Sys2Proof.Machine

/-! ### The traffic at reset: none -/

theorem entry_reset (x : EntryIdx) : State.reset.entry x = none := by simp [State.entry, State.reset]

theorem port_reset (i : Initiator) : State.reset.port i = .reset := by simp [State.port, State.reset]

theorem head_reset (i : Initiator) : State.reset.head i = .noHead := by simp [State.head, State.reset]

theorem queue_reset (i : Initiator) : (State.reset.port i).queue = [] := by rw [port_reset]; rfl

/-- What is said of every entry holds at reset, where every entry is FREE (R27). -/
theorem entries_reset {p : Entry → Prop} (x : EntryIdx) : ∀ e ∈ State.reset.entry x, p e := by
  simp [entry_reset]

/-- What is said of every queued request holds at reset, where every queue is empty (R153). -/
theorem requests_reset {p : Request → Prop} (i : Initiator) : ∀ q ∈ (State.reset.port i).queue, p q := by
  simp [queue_reset]

/-! ### The laws of each block -/

theorem creditLaw_reset : State.reset.CreditLaw := fun i => by
  rw [port_reset]
  exact lawful_of_closed (.inl rfl) rfl rfl

theorem quarantineLaw_reset : State.reset.QuarantineLaw := ⟨by decide, by decide, fun h => by cases h⟩

theorem listsMirror_reset : State.reset.ListsMirror :=
  ⟨fun x => entries_reset x, fun x y => by rw [entry_reset, entry_reset]; rfl⟩

theorem queuesHoldReady_reset : State.reset.QueuesHoldReady :=
  ⟨List.nodup_nil, List.nodup_nil, fun x => by
    rw [entry_reset]
    exact ⟨iff_of_false List.not_mem_nil Bool.false_ne_true, iff_of_false List.not_mem_nil Bool.false_ne_true⟩⟩

theorem tagsDistinct_reset : State.reset.TagsDistinct :=
  ⟨fun i => by rw [queue_reset]; exact List.nodup_nil, fun i => requests_reset i, fun x y => entries_reset x⟩

theorem headsTrue_reset : State.reset.HeadsTrue :=
  (headsTrue_iff _).mpr fun i => headTrue_of_empty (queue_reset i) (head_reset i)

/-- Settles O59: at reset there is no traffic for a law to fail of, and every record and count is within its range. -/
theorem resetKeepsEveryLaw : Obligations.ResetKeepsEveryLaw := by
  obtain ⟨hconfig, hranges⟩ := (inRange_iff _).mp reset_inRange
  exact ⟨creditLaw_reset, ⟨by decide, fun _ => rfl⟩, fun _ x => entries_reset x, quarantineLaw_reset,
    ⟨fun x => entries_reset x, listsMirror_reset, queuesHoldReady_reset⟩, fun _ => ⟨rfl, rfl, fun x => entries_reset x⟩,
    tagsDistinct_reset, headsTrue_reset, hconfig, hranges, fun i => requests_reset i, fun x => entries_reset x, rfl⟩

end Sys2Proof.Machine
end

section
/-!
Every operation of the part leaves the commands that wait (log entry 6), and every command is one operation that completes; O1 and O3.
-/

namespace Sys2Proof.Machine

/-! ### Shared operations -/

@[simp] theorem report_pending (s : State) (rs : List Report) (l : Option (Initiator × Tick)) : (s.report rs l).pending = s.pending :=
  (report_onlyMonitor s rs l).pending

@[simp] theorem recheck_pending (s : State) : s.recheck.pending = s.pending := (recheck_onlyHeads s).pending

@[simp] theorem headArrives_pending (s : State) (i : Initiator) : (s.headArrives i).pending = s.pending := (headArrives_onlyHeads s i).pending

@[simp] theorem complete_pending (s : State) (code : Word) (st : CommandStatus) : (s.complete code st).pending = s.pending :=
  (complete_frame s code st).1

@[simp] theorem notices_pending (before s : State) : (State.notices before s).pending = s.pending := (notices_frame before s).1

@[simp] theorem suspectIfReached_pending (s : State) : s.suspectIfReached.pending = s.pending := (suspectIfReached_frame s).1

@[simp] theorem freeEntry_pending (s : State) (x : EntryIdx) : (s.freeEntry x).pending = s.pending := (freeEntry_onlyClaims s x).pending

@[simp] theorem answer_pending (s : State) (e : Entry) (st : Status) (d : List DataBeat) : (s.answer e st d).pending = s.pending :=
  (answer_onlyClaims s e st d).pending

@[simp] theorem setCredits_pending (s : State) (n : Nat) : (s.setCredits n).pending = s.pending := (setCredits_frame s n).1

/-- A branch leaves the waiting commands where both its sides do. -/
theorem pending_ite {p : Prop} [Decidable p] {s a b : State} (ha : a.pending = s.pending) (hb : b.pending = s.pending) :
    (if p then a else b).pending = s.pending := by
  split
  · exact ha
  · exact hb

theorem pending_foldl {α : Type} (f : State → α → State) (hf : ∀ s a, (f s a).pending = s.pending) (l : List α) (s : State) :
    (l.foldl f s).pending = s.pending := by
  induction l generalizing s with
  | nil => rfl
  | cons a l ih => exact (ih _).trans (hf s a)

/-! ### The target link (chapter 6) -/

theorem takeResponse_pending (s : State) (r : Response) : (s.takeResponse r).pending = s.pending := by
  have hcompletion : ∀ e, (s.completion r e).pending = s.pending := fun e => by
    unfold State.completion
    exact pending_ite (by simp) (by simp)
  have hlate : ∀ e c, (s.lateResponse r.tag e c).pending = s.pending := fun e c => by simp [State.lateResponse]
  have hstray : (s.strayResponse r.tag).pending = s.pending := logFault_pending s _
  unfold State.takeResponse
  refine pending_ite rfl ?_
  split
  · exact hstray
  · split
    · exact hcompletion _
    · exact hlate _ _
    · exact hstray
    · exact hstray

theorem takeCredit_pending (s : State) (n : Nat) : (s.takeCredit n).pending = s.pending := by
  unfold State.takeCredit
  split
  · exact setCredits_pending s _
  · exact setCredits_pending s _
  · rfl
  · rfl

@[simp] theorem bringOnline_pending (s : State) (n : Nat) : (s.bringOnline n).pending = s.pending := by
  simp [State.bringOnline, State.changeTarget]

theorem acknowledge_pending (s : State) (n : Nat) : (s.acknowledge n).pending = s.pending :=
  (bringOnline_pending _ n).trans (acknowledgeClaim_onlyClaims s).pending

theorem restarted_pending (s : State) (n : Nat) : (s.restarted n).pending = s.pending :=
  (bringOnline_pending _ n).trans (noticeClaim_onlyClaims s).pending

theorem takeAck_pending (s : State) (n : Nat) : (s.takeAck n).pending = s.pending := by
  unfold State.takeAck
  split
  · exact acknowledge_pending s n
  all_goals exact logFault_pending s _

theorem takeResetNotice_pending (s : State) (n : Nat) : (s.takeResetNotice n).pending = s.pending := by
  unfold State.takeResetNotice
  split
  · exact acknowledge_pending s n
  · exact logFault_pending s _
  · exact restarted_pending s n
  · exact restarted_pending s n

@[simp] theorem enterOffline_pending (s : State) : s.enterOffline.pending = s.pending := by
  simp [State.enterOffline, (offlineClaim_onlyClaims _).pending]

@[simp] theorem startResync_pending (s : State) : s.startResync.pending = s.pending := by
  simp [State.startResync, (resyncClaim_onlyClaims _).pending]

theorem commandResync_pending (s : State) : s.commandResync.pending = s.pending := by
  unfold State.commandResync
  exact pending_ite (by simp) (by simp)

theorem commandOffline_pending (s : State) : s.commandOffline.pending = s.pending := by
  unfold State.commandOffline
  exact pending_ite (by simp) (by simp)

theorem writeDetachLimit_pending (s : State) (v : Word) : (s.writeDetachLimit v).pending = s.pending := by
  unfold State.writeDetachLimit
  exact pending_ite (by simp) (by simp)

/-! ### The arbiters (R64, R99) -/

theorem issue_pending (s : State) : s.issue.pending = s.pending := by
  unfold State.issue
  refine pending_ite ?_ rfl
  split
  · rfl
  · split
    · rfl
    · simp

theorem movePointer_pending (s : State) (i : Initiator) : (s.movePointer i).pending = s.pending := by
  unfold State.movePointer
  split <;> rfl

theorem charge_pending (s : State) (i : Initiator) (beats : Nat) : (s.charge i beats).pending = s.pending := by
  unfold State.charge
  exact pending_ite rfl rfl

theorem admitHead_pending (s : State) (i : Initiator) (r : Request) (rest : List Request) (w : WindowIdx) (x : EntryIdx) :
    (s.admitHead i r rest w x).pending = s.pending := by
  simp [State.admitHead, (allocate_onlyClaims _ _ _ _ _).pending, charge_pending, movePointer_pending]

theorem grant_pending (s : State) : s.grant.pending = s.pending := by
  unfold State.grant
  split
  · rfl
  · split
    · rfl
    · split
      · simp [admitHead_pending]
      · rfl

/-! ### The initiator ports (R41, R138-R149) -/

theorem arrive_pending (s : State) (i : Initiator) (r : Request) : (s.arrive i r).pending = s.pending := by
  have happend : ∀ u : State, (u.appendRequest i r).pending = u.pending := fun u => pending_ite (by simp) rfl
  have hrefuse : ∀ u : State, (u.refuseWithCredit i r).pending = u.pending := fun u => (refuseWithCredit_onlyHeads u i r).pending
  have hcheck : ∀ u : State, (u.checkArrival i r).pending = u.pending := fun u => by
    unfold State.checkArrival
    exact pending_ite (by simp) (pending_ite (by simp [hrefuse]) (pending_ite (hrefuse u) (happend u)))
  unfold State.arrive
  split
  · exact logFault_pending s _
  · exact (refuse_onlyHeads s i r).pending
  · exact pending_ite (logFault_pending s _) (hcheck _)

theorem takeUndefined_pending (s : State) (l : Link) : (s.takeUndefined l).pending = s.pending := by
  cases l with
  | initiator i => exact logFault_pending s _
  | target => exact logFault_pending s _

@[simp] theorem takeZeroNotice_pending (s : State) (i : Initiator) : (s.takeZeroNotice i).pending = s.pending := by
  unfold State.takeZeroNotice
  exact pending_ite (by simp [State.completeDrain]) rfl

theorem enablePort_pending (s : State) (i : Initiator) : (s.enablePort i).1.pending = s.pending := by
  unfold State.enablePort
  split <;> rfl

theorem drainPort_pending (s : State) (i : Initiator) : (s.drainPort i).1.pending = s.pending := by
  unfold State.drainPort
  split
  · simp [(refuseQueueWithCredit_leaves s i).1.pending]
  all_goals rfl

theorem fence_pending (s : State) (i : Initiator) : (s.fence i).pending = s.pending := by
  simp [State.fence, (fenceClaim_onlyClaims _ _).pending, (refuseQueue_leaves s i).1.pending]

theorem fencePort_pending (s : State) (i : Initiator) : (s.fencePort i).1.pending = s.pending := by
  unfold State.fencePort
  simp only
  split
  · simp [fence_pending]
  · simp [fence_pending]
  · exact takeZeroNotice_pending s i
  · exact takeZeroNotice_pending s i

theorem resetPort_pending (s : State) (i : Initiator) : (s.resetPort i).pending = s.pending := by
  simp [State.resetPort, (linkResetClaim_onlyClaims _ _).pending]

theorem linkReset_pending (s : State) (i : Initiator) : (s.linkReset i).pending = s.pending := by
  unfold State.linkReset
  simp only
  split
  · simp
  all_goals simp [resetPort_pending]

/-! ### Ticks and expiries (R86, R112, R121, R127, R159) -/

@[simp] theorem offerSample_pending (s : State) : s.offerSample.pending = s.pending := by
  obtain ⟨b, h⟩ := offerSample_onlyMonitor s
  exact h.pending

@[simp] theorem takeExpiry_pending (s : State) : s.takeExpiry.pending = s.pending :=
  (offerSample_pending _).trans (expire_frame s).1

@[simp] theorem takePeriodExpiry_pending (s : State) : s.takePeriodExpiry.pending = s.pending := by
  have hexpiry : s.periodExpiry.pending = s.pending := by
    unfold State.periodExpiry
    exact pending_ite (pending_ite (by simp) rfl) rfl
  exact (offerSample_pending _).trans hexpiry

@[simp] theorem takeResyncWaitExpiry_pending (s : State) : s.takeResyncWaitExpiry.pending = s.pending := by
  have hexpiry : s.resyncWaitExpiry.pending = s.pending := by
    unfold State.resyncWaitExpiry
    exact pending_ite (by simp) rfl
  exact (offerSample_pending _).trans hexpiry

theorem tick_pending (s : State) : s.tick.pending = s.pending := by
  simp [State.tick, State.countTick, State.settleDue]

/-! ### The command register (R190) -/

/-- A command with an argument leaves the waiting commands where its act does. -/
theorem withArgument_pending {s : State} {n : Nat} {code : Word} {act : Fin n → State → State × CommandStatus}
    (h : ∀ k, (act k s).1.pending = s.pending) : (s.withArgument n code act).pending = s.pending := by
  unfold State.withArgument
  split
  · exact (complete_pending _ _ _).trans (h _)
  · exact complete_pending s _ _

theorem commitWindow_pending (s : State) (w : WindowIdx) : (s.commitWindow w).1.pending = s.pending := by
  unfold State.commitWindow
  split
  · exact recheck_pending _
  · rfl

theorem commitProfile_pending (s : State) (i : Initiator) : (s.commitProfile i).1.pending = s.pending := by
  unfold State.commitProfile
  split
  · exact recheck_pending _
  · rfl

theorem commandWriteEdges_pending (s : State) : s.commandWriteEdges.pending = s.pending := by
  unfold State.commandWriteEdges
  split
  · exact complete_pending _ _ _
  · exact complete_pending _ _ _

theorem commandFaultPop_pending (s : State) : s.commandFaultPop.pending = s.pending := by
  unfold State.commandFaultPop
  split
  · exact complete_pending _ _ _
  · exact complete_pending _ _ _

theorem resetPortTraffic_pending (s : State) (i : Initiator) : (s.resetPortTraffic i).pending = s.pending := by
  unfold State.resetPortTraffic
  exact pending_ite rfl rfl

theorem clearTraffic_pending (s : State) : s.clearTraffic.pending = s.pending := rfl

theorem resetTarget_pending (s : State) : s.resetTarget.pending = s.pending := by
  unfold State.resetTarget
  exact pending_ite rfl rfl

theorem trafficReset_pending (s : State) : s.trafficReset.pending = s.pending := by
  have hports : (initiators.foldl State.resetPortTraffic s).pending = s.pending := pending_foldl _ resetPortTraffic_pending _ s
  rw [State.trafficReset, resetTarget_pending, clearTraffic_pending, hports]

/-- A command of the command register (R190). -/
theorem writeCommand_pending (s : State) (code : Word) : (s.writeCommand code).pending = s.pending := by
  unfold State.writeCommand
  refine pending_ite (withArgument_pending (enablePort_pending s)) ?_
  refine pending_ite (withArgument_pending (drainPort_pending s)) ?_
  refine pending_ite (withArgument_pending (fencePort_pending s)) ?_
  refine pending_ite (commandResync_pending s) ?_
  refine pending_ite (commandOffline_pending s) ?_
  refine pending_ite (withArgument_pending (commitWindow_pending s)) ?_
  refine pending_ite (withArgument_pending fun _ => rfl) ?_
  refine pending_ite (withArgument_pending (commitProfile_pending s)) ?_
  refine pending_ite (withArgument_pending fun _ => rfl) ?_
  refine pending_ite (commandWriteEdges_pending s) ?_
  refine pending_ite (withArgument_pending fun _ => recheck_pending _) ?_
  refine pending_ite (withArgument_pending fun _ => rfl) ?_
  refine pending_ite (complete_pending _ _ _) ?_
  refine pending_ite (complete_pending _ _ _) ?_
  refine pending_ite (complete_pending _ _ _) ?_
  refine pending_ite (withArgument_pending fun _ => rfl) ?_
  refine pending_ite (commandFaultPop_pending s) ?_
  exact pending_ite ((complete_pending _ _ _).trans (trafficReset_pending s)) (complete_pending s _ _)

/-! ### The register window (R187) -/

theorem writeCounterWord_pending (s : State) (c : CounterIdx) (k : Nat) (v : Word) : (s.writeCounterWord c k v).pending = s.pending := by
  unfold State.writeCounterWord
  split <;> rfl

/-- A write of any address (R187). -/
theorem writeWord_pending (s : State) (a : BitVec 8) (v : Word) : (s.writeWord a v).pending = s.pending := by
  unfold State.writeWord
  refine pending_ite rfl ?_
  refine pending_ite rfl ?_
  refine pending_ite (writeDetachLimit_pending s v) ?_
  refine pending_ite rfl ?_
  refine pending_ite rfl ?_
  refine pending_ite rfl ?_
  refine pending_ite (writeCommand_pending s v) ?_
  refine pending_ite rfl ?_
  refine pending_ite rfl ?_
  refine pending_ite (writeCounterWord_pending s _ _ v) ?_
  exact pending_ite rfl (pending_ite rfl rfl)

/-! ### O3 -/

/-- The command completes in `s`, and leaves the commands that wait. -/
def CompletesIn (c : Instr) (s : State) : Prop := ∃ t, exec c s = .next t ∧ t.pending = s.pending

/-- A command that acts out of reset alone completes (R195); the waiting commands stay where its act leaves them. -/
theorem completesIn_of_outOfReset {c : Instr} {s : State} {f : State → State} (h : (f s).pending = s.pending)
    (he : exec c s = .next (s.outOfReset f)) : CompletesIn c s := ⟨_, he, pending_ite h rfl⟩

/-- A row of the command register completes. -/
theorem completesIn_of_commandOfCode (s : State) (code : Word) : CompletesIn (commandOfCode code) s :=
  completesIn_of_outOfReset (writeCommand_pending s code) (exec_commandOfCode code s)

/-- A row of the register window completes. -/
theorem completesIn_of_writeCommandAt (s : State) (a : BitVec 8) (v : Word) : CompletesIn (writeCommandAt a v) s :=
  completesIn_of_outOfReset (writeWord_pending s a v) (exec_writeCommandAt a v s)

/-- Settles O3: each row is its meaning out of reset, whose operation leaves the queue, or DEVICE_RESET, which carries the queue over. -/
theorem everyCommandCompletes : Obligations.EveryCommandCompletes := by
  intro c s
  cases c with
  | request i r => exact completesIn_of_outOfReset (arrive_pending s i r) rfl
  | linkReset i => exact completesIn_of_outOfReset (linkReset_pending s i) rfl
  | undefinedKindMessage l k => exact completesIn_of_outOfReset (takeUndefined_pending s l) rfl
  | targetResponse r => exact completesIn_of_outOfReset (takeResponse_pending s r) rfl
  | targetCredit n => exact completesIn_of_outOfReset (takeCredit_pending s n) rfl
  | resyncAck n => exact completesIn_of_outOfReset (takeAck_pending s n) rfl
  | resetNotice n => exact completesIn_of_outOfReset (takeResetNotice_pending s n) rfl
  | tick => exact completesIn_of_outOfReset (tick_pending s) rfl
  | expiryClaim => exact completesIn_of_outOfReset (takeExpiry_pending s) rfl
  | periodExpiry => exact completesIn_of_outOfReset (takePeriodExpiry_pending s) rfl
  | resyncWaitExpiry => exact completesIn_of_outOfReset (takeResyncWaitExpiry_pending s) rfl
  | grant => exact completesIn_of_outOfReset (grant_pending s) rfl
  | issue => exact completesIn_of_outOfReset (issue_pending s) rfl
  | drainCompletion p => exact completesIn_of_outOfReset (takeZeroNotice_pending s p) rfl
  | deviceReset => exact ⟨s.deviceReset, rfl, State.deviceReset_pending s⟩
  | portEnable => exact completesIn_of_commandOfCode s Config.codePortEnable
  | portDrain => exact completesIn_of_commandOfCode s Config.codePortDrain
  | portFence => exact completesIn_of_commandOfCode s Config.codePortFence
  | targetResync => exact completesIn_of_commandOfCode s Config.codeTargetResync
  | targetOffline => exact completesIn_of_commandOfCode s Config.codeTargetOffline
  | writeWindow => exact completesIn_of_commandOfCode s Config.codeWriteWindow
  | readWindow => exact completesIn_of_commandOfCode s Config.codeReadWindow
  | writeProfile => exact completesIn_of_commandOfCode s Config.codeWriteProfile
  | readProfile => exact completesIn_of_commandOfCode s Config.codeReadProfile
  | writeEdges => exact completesIn_of_commandOfCode s Config.codeWriteEdges
  | budgetReload => exact completesIn_of_commandOfCode s Config.codeBudgetReload
  | histClear => exact completesIn_of_commandOfCode s Config.codeHistClear
  | counterFreeze => exact completesIn_of_commandOfCode s Config.codeCounterFreeze
  | counterUnfreeze => exact completesIn_of_commandOfCode s Config.codeCounterUnfreeze
  | counterClear => exact completesIn_of_commandOfCode s Config.codeCounterClear
  | trackerSnapshot => exact completesIn_of_commandOfCode s Config.codeTrackerSnapshot
  | faultPop => exact completesIn_of_commandOfCode s Config.codeFaultPop
  | trafficReset => exact completesIn_of_commandOfCode s Config.codeTrafficReset
  | unassignedCommand code => exact completesIn_of_outOfReset (writeCommand_pending s code) rfl
  | prescalerWrite v => exact completesIn_of_writeCommandAt s 0x08 v
  | regulationPeriodWrite v => exact completesIn_of_writeCommandAt s 0x09 v
  | detachLimitWrite v => exact completesIn_of_writeCommandAt s 0x0A v
  | resyncWaitWrite v => exact completesIn_of_writeCommandAt s 0x0B v
  | tickCountLowRead => exact completesIn_of_outOfReset (f := State.readTickLow) rfl rfl
  | interruptFlagsWrite v => exact completesIn_of_writeCommandAt s 0x10 v
  | interruptEnablesWrite v => exact completesIn_of_writeCommandAt s 0x11 v
  | counterValueLowRead c => exact completesIn_of_outOfReset (f := fun t => t.readCounterLow c) rfl rfl
  | counterValueHighWrite c v => exact completesIn_of_outOfReset (State.writeCounterHigh_pending s c v) rfl
  | counterValueLowWrite c v => exact completesIn_of_outOfReset (State.writeCounterLow_pending s c v) rfl
  | counterControlWrite c w v => exact completesIn_of_outOfReset (State.writeControl_pending s c w v) rfl
  | counterOverflowFlagsWrite v => exact completesIn_of_writeCommandAt s 0x98 v
  | histogramIndexWrite v => exact completesIn_of_writeCommandAt s 0xA8 v
  | stagingWrite k v => exact completesIn_of_outOfReset (State.setStaged_pending s k v) rfl
  | registerWrite a v => exact completesIn_of_outOfReset (writeWord_pending s a v) rfl

/-! ### O1 -/

/-- Settles O1: the queue is not empty, so no REFCLK period is taken and its front command is. -/
theorem stepTakesFrontCommand : Obligations.StepTakesFrontCommand := by
  intro s c rest hfront
  rw [step, hfront]

end Sys2Proof.Machine
end
